-- ==== Sys2Proof/Word.lean ====
section
/-!
DEFINITION. The words, pages and sets the manual counts with: bytes, host addresses, time stamps, page images.
-/
namespace Sys2Proof

/-- A byte is eight bits (00, Conventions). -/
abbrev Byte := BitVec 8

/-- A host byte address HA[20:0] (R1). -/
abbrev HostAddr := BitVec 21

/-- The 32-bit time stamp (R21). -/
abbrev Stamp := BitVec 32

/-- The position of a byte within its page, 0 to 63 (R1). -/
abbrev Offset := Fin 64

/-- The index of a settle table entry, 0 to 31 (R17). -/
abbrev Index := Fin 32

/-- 64 bytes: the unit of every program (R111). -/
abbrev Page := Vector Byte 64

/-- 64 bytes of which some are not known; an absent byte is one the manual calls undefined (R17, R82). -/
abbrev PartialPage := Vector (Option Byte) 64

/-- A set of offsets: each of 0 to 63 is in it or not (00, Conventions). -/
abbrev OffsetSet := Vector Bool 64

end Sys2Proof
end

