-- ==== Sys2Proof/Syntax.lean ====
section
/-!
DEFINITION. The commands: one constructor per row of spec/opcode_table.json.
-/
namespace Sys2Proof

/-- What the PNV holds in a page once a program there is over: the 64 bytes of its latch, or, on a worn page or
after a program that was cut, other bytes (R111, R118, R157). -/
inductive ProgramResult where
  | took
  | left (content : Page)
  deriving DecidableEq, Repr

/-- The rows of the table of operations and events. -/
inductive Instr where
  /-- POWER_ON_RESET (R15): power-on reset is asserted. -/
  | powerOnReset
  /-- RST (R48): RST# is asserted. -/
  | rst
  /-- RELEASE_FROM_RESET (R3): either reset is released, with the levels on MSIZE[1:0] and SPARE[1:0]. -/
  | releaseFromReset (msize spare : BitVec 2)
  /-- TIMEBASE_TICK (R21): a 100 µs tick; every tenth is also the 1 ms tick. -/
  | timebaseTick
  /-- HOST_WRITE (R67): the arrival condition comes true with HWR#, HA and HD; or HWR# joins a strobe asserted already
(log 19). -/
  | hostWrite (a : HostAddr) (d : Byte)
  /-- HOST_READ (R71): the arrival condition comes true with HRD# and HA; or HRD# joins a strobe asserted already
(log 19). -/
  | hostRead (a : HostAddr)
  /-- ARRIVAL_CONDITION_FALSE (R62): the host releases its strobe or chip select. -/
  | arrivalConditionFalse
  /-- STALL_EXPIRY (R66). -/
  | stallExpiry
  /-- WAITING_WRITE_TAKEN_AGAIN (R40). -/
  | waitingWriteTakenAgain
  /-- PRESSURE (R41). -/
  | pressure
  /-- QUIET_DEADLINE_EXPIRY (R24) of entry i. -/
  | quietDeadlineExpiry (i : Index)
  /-- AGE_DEADLINE_EXPIRY (R23) of entry i. -/
  | ageDeadlineExpiry (i : Index)
  /-- SNAPSHOT (R86). -/
  | snapshot
  /-- FILL_COMPLETE (R88). -/
  | fillComplete
  /-- PROGRAM_CLAIM_GRANT (R93). -/
  | programClaimGrant
  /-- PAGE_PROGRAM_COMPLETE (R116): MRDY rises; the operand is what the PNV left in the page. -/
  | pageProgramComplete (result : ProgramResult)
  /-- VERIFY_CLAIM_GRANT (R94). -/
  | verifyClaimGrant
  /-- VERIFY_COMPLETE (R94). -/
  | verifyComplete
  /-- BYTE_READ_GRANT (R72). -/
  | byteReadGrant
  /-- BYTE_READ_COMPLETE (R73). -/
  | byteReadComplete
  /-- PROGRAM_LIMIT_EXPIRY (R118). -/
  | programLimitExpiry
  /-- MAP_STORE_STEP_GRANT (R153). -/
  | mapStoreStepGrant
  /-- MAP_STORE_VERIFY_COMPLETE (R154). -/
  | mapStoreVerifyComplete
  /-- PERSIST_JOB_START (R151). -/
  | persistJobStart
  /-- SAVE_COMPLETE (R150). -/
  | saveComplete
  /-- CLOCK_STAGE_END (R158). -/
  | clockStageEnd
  /-- READY_MRDY_HIGH (R124): MRDY is seen to rise; the operand is what a program that a reset cut off left in its page. -/
  | readyMrdyHigh (result : ProgramResult)
  /-- READY_TIMEOUT (R124). -/
  | readyTimeout
  /-- LOAD_PAGE_READ_COMPLETE (R159). -/
  | loadPageReadComplete
  /-- PFW_ASSERTED (R168). -/
  | pfwAsserted
  /-- PFW_DEASSERTED (R173). -/
  | pfwDeasserted
  /-- FLUSH_DONE (R172). -/
  | flushDone
  /-- FRAME_BEGIN (R178): LCS# falls. -/
  | frameBegin
  /-- FRAME_END (R181): LCS# rises. -/
  | frameEnd
  /-- UNKNOWN_COMMAND (R180): a command byte that names no command. -/
  | unknownCommand (code : Byte)
  /-- GET_ID (R184). -/
  | getId
  /-- GET_STATUS (R184). -/
  | getStatus
  /-- GET_EVENTS (R185). -/
  | getEvents
  /-- CLEAR_EVENTS (R185): its last argument byte, the low byte of the mask. -/
  | clearEvents (last : Byte)
  /-- SET_ENABLES (R185): its last argument byte, the low byte of the enable word. -/
  | setEnables (last : Byte)
  /-- GET_CAPTURE (R186). -/
  | getCapture
  /-- RELEASE_CAPTURE (R186). -/
  | releaseCapture
  /-- GET_COUNTER (R187): its argument byte, the index. -/
  | getCounter (last : Byte)
  /-- CLEAR_COUNTERS (R187). -/
  | clearCounters
  /-- QUERY_PAGE (R188): its last argument byte, the low byte of the logical page. -/
  | queryPage (last : Byte)
  /-- READ_RECORD (R189): its argument byte, the record index. -/
  | readRecord (last : Byte)
  /-- GET_CONFIG (R190): its argument byte, the item. -/
  | getConfig (last : Byte)
  /-- SET_CONFIG (R191): its last argument byte, the low byte of the value. -/
  | setConfig (last : Byte)
  /-- SET_REGION (R192): its last argument byte, the low byte of the age limit. -/
  | setRegion (last : Byte)
  /-- SYNC (R193). -/
  | sync
  /-- SYNC_COMPLETE (R194). -/
  | syncComplete
  /-- SAVE (R195). -/
  | save
  /-- REARM (R139). -/
  | rearm
  /-- LINK_BYTE (R179): the eighth rising edge of LCK completes a byte of the frame. -/
  | linkByte (b : Byte)
  deriving DecidableEq, Repr

end Sys2Proof
end

