-- ==== Sys2Proof/Config.lean ====
section
/-!
DEFINITION. What the manual leaves open: the free values (no body, so nothing can be proved of them) and the one
value the model fixes for the PNV's content before the part writes it.
-/
namespace Sys2Proof.Config

/-- FREE VALUE (log 7). The byte at an offset of a program buffer that the manual calls undefined (R82). -/
opaque undefinedByte : Nat → Byte

/-- FREE VALUE (log 8). Which of several capture offers made in one step is taken first (R199: "in either order"),
as a function of how many such choices have been made. -/
opaque firstOffer : Nat → Nat

/-- FREE VALUE (log 6). Whether a PAGE PROGRAM that a reset cuts off has had its 64th write cycle (R125), as a function
of how many such choices have been made. -/
opaque latchLoadComplete : Nat → Bool

/-- DESIGN CHOICE (log 4). What a PNV byte reads as that no program has been recorded for. -/
def unwrittenByte : Byte := 0xFF#8

/-- How many follow-on rows one event can bring about at most; a bound for structural recursion (log 1). -/
def followOnBound : Nat := 16

/-- How many rows (expiries and their follow-on rows) can be waiting at one tick at most (log 3). -/
def tickBound : Nat := 256

end Sys2Proof.Config
end

