-- ==== Sys2Proof/Machine/State.lean ====
section
/-!
DEFINITION. State: everything the manual gives the W64A, block by block (00, Block overview), the attached PNV, and
the queue of waiting commands. Plain data. Fault and Refusal. State.reset.
-/
namespace Sys2Proof.Machine

/-- The state of the part as a whole (00, Block overview). -/
inductive Mode where
  | boot | run | holdup | fault
  deriving DecidableEq, Repr

/-! ### Settle table (02) -/

/-- R17, section 2.2. -/
inductive EntryState where
  | free | settling | due | committing | clean | pinned
  deriving DecidableEq, Repr

/-- One slot of the settle table (R17). An offset is in the known set exactly when the image has its byte. -/
structure Entry where
  state : EntryState
  page : Option Nat
  image : PartialPage
  changed : OffsetSet
  /-- The 1 ms ticks left; `some 0` from the tick that brings it to zero until the expiry is taken (R22, R24). -/
  quiet : Option Nat
  /-- As `quiet`, for the age deadline (R23). -/
  age : Option Nat
  ageStart : Option Stamp
  deadlinePassed : Bool
  promoteAtEnd : Bool
  syncMark : Bool
  deriving DecidableEq, Repr

/-- The 32 entries and the two lists that name them (R17, R26, R30). -/
structure SettleTable where
  entries : Vector Entry 32
  /-- Head first (R26). -/
  dueQueue : List Index
  /-- Least recently used first (R30). -/
  cleanList : List Index
  deriving DecidableEq, Repr

/-! ### Region unit (03) -/

/-- R49. -/
inductive Policy where
  | absorb | through | locked
  deriving DecidableEq, Repr

/-- A policy with its quiet time and age limit in ms (R49). -/
structure PolicyRecord where
  policy : Policy
  quiet : Nat
  age : Nat
  deriving DecidableEq, Repr

/-- A region record (R49): the policy of the pages in [first, first + count). -/
structure Region where
  first : Nat
  count : Nat
  record : PolicyRecord
  deriving DecidableEq, Repr

/-- The working region table (R49). -/
structure RegionTable where
  dflt : PolicyRecord
  region : Vector Region 4
  deriving DecidableEq, Repr

/-- The rest of the working configuration (R144, R190). -/
structure Settings where
  budget : Nat
  retryLimit : Nat
  writeStall : Nat
  readStall : Nat
  filler : Byte
  sparesLow : Nat
  deriving DecidableEq, Repr

/-! ### Host port (04) -/

/-- An access with what was sampled for it: a WRITE has its data byte, a READ has none (R65). -/
inductive Access where
  | read
  | write (d : Byte)
  deriving DecidableEq, Repr

/-- What a pending access is held for (R65). -/
inductive Wait where
  | boot | admission | claim | granted
  deriving DecidableEq, Repr

/-- The pending access record (R65). `stallLeft` counts the 100 µs ticks still to come before the stall interval
expires (R66); it stands for the stall start (log 17). -/
structure PendingAccess where
  access : Access
  addr : HostAddr
  stallLimit : Nat
  stallLeft : Nat
  wait : Wait
  deriving DecidableEq, Repr

/-- R62. -/
inductive BusState where
  | idle | pending | ended
  deriving DecidableEq, Repr

/-- What HRD# and HWR# show while HCS# is asserted; the arrival condition holds with one of the two alone (R62). -/
inductive Strobe where
  | read | write | both
  deriving DecidableEq, Repr

/-- The host port: bus state, pending access, the byte an ended read holds on HD (R63), and the strobes asserted on the
pins now: `none` while HCS# or both of them are released (R62, R64). -/
structure HostPort where
  bus : BusState
  pend : Option PendingAccess
  readByte : Option Byte
  strobe : Option Strobe
  deriving DecidableEq, Repr

/-! ### Remap unit (01, 07) -/

/-- R5. -/
inductive RecordKind where
  | remap | retired
  deriving DecidableEq, Repr

/-- A map record (R5). -/
structure MapRecord where
  kind : RecordKind
  spare : Nat
  page : Nat
  deriving DecidableEq, Repr

/-- The spares-low report state (R133). -/
inductive ReportState where
  | clear | made
  deriving DecidableEq, Repr

/-- The working remap map with S and Lcap, both 0 while unbuilt (R4, R6, R15). -/
structure RemapUnit where
  built : Bool
  spares : Nat
  capacity : Nat
  records : List MapRecord
  lowReport : ReportState
  deriving DecidableEq, Repr

/-! ### Commit engine (05) -/

/-- R83. -/
inductive Stage where
  | idle | starting | filling | awaitProgram | programming | awaitVerify | verifying
  deriving DecidableEq, Repr

/-- The page a commit programs (R82). -/
inductive Target where
  | home
  | spare (s : Nat)
  deriving DecidableEq, Repr

/-- The commit record (R82). -/
structure CommitRecord where
  entry : Index
  page : Nat
  buffer : PartialPage
  snapKnown : OffsetSet
  changeSet : OffsetSet
  target : Target
  targetPage : Nat
  trial : Bool
  attempts : Nat
  attemptLimit : Nat
  deriving DecidableEq, Repr

/-- The commit engine (R82, R83). -/
structure CommitEngine where
  stage : Stage
  record : Option CommitRecord
  deriving DecidableEq, Repr

/-! ### Memory port (06) -/

/-- A read in progress: a BYTE READ for the host, or a PAGE READ for the fill, a verify of the commit engine, a
verify of the map store, or the boot loader (R113, R114). -/
inductive ReadOp where
  | hostByte (page : Nat) (offset : Offset)
  | fill (page : Nat)
  | verify (page : Nat)
  | mapVerify (page : Nat)
  | load (page : Nat)
  deriving DecidableEq, Repr

/-- The two claimants of PAGE PROGRAM (R115). -/
inductive Programmer where
  | commitEngine | mapStore
  deriving DecidableEq, Repr

/-- The state of the port (R117); `limit` is what is left of the program limit in 1 ms ticks. -/
inductive PortState where
  | idle
  | reading (op : ReadOp)
  | programming (who : Programmer) (page : Nat) (limit : Nat)
  | faulted
  deriving DecidableEq, Repr

/-- The attached PNV (R111): its array as (physical byte address, byte) pairs, and the page and latch of a program that the
part has given it, or is loading, and that is not yet over. -/
structure Pnv where
  cells : List Host.Cell
  busy : Option (Nat × Page)
  deriving DecidableEq, Repr

/-! ### Map store and boot loader (08) -/

/-- One of the two map copies (R145). -/
inductive Copy where
  | a | b
  deriving DecidableEq, Repr

/-- R149. -/
inductive MapStatus where
  | saved | pending | stale
  deriving DecidableEq, Repr

/-- The map store's side of a SAVE in flight (R150). -/
inductive SaveRequest where
  | none | waiting | running
  deriving DecidableEq, Repr

/-- The step of a job at its page (R153). -/
inductive JobStep where
  | program | verify
  deriving DecidableEq, Repr

/-- What a persist job works on: job target, job sequence, the job step (the page of the page order it is at, 0 the
header, k record page k, and program or verify there), and the persist image, header first (R144, R151, R153). -/
structure PersistJob where
  target : Copy
  sequence : BitVec 32
  page : Nat
  step : JobStep
  image : List Page
  deriving DecidableEq, Repr

/-- The map store (R144). The job is RUNNING with `jobRunning` set and IDLE with it clear. The last two fields are the model's own hand-over between two rows of
one step (log 1): a trigger has started a job whose PERSIST_JOB_START is to be taken; the end of a SAVE (success or
not) has been reported and SAVE_COMPLETE is to be taken. -/
structure MapStore where
  current : Option Copy
  sequence : BitVec 32
  status : MapStatus
  persistAgain : Bool
  jobRunning : Bool
  jobData : PersistJob
  changedSince : Bool
  freshTarget : Copy
  saveRequest : SaveRequest
  startDue : Bool
  saveReport : Option Bool
  deriving DecidableEq, Repr

/-- The stages of boot (R158); SELECT, BUILD and FRESH take no time of their own. `left` counts the 1 ms ticks still
to come; in LOAD, `k` is the page of the copy being read, 0 the header. -/
inductive BootStage where
  | clock (left : Nat)
  | ready (left : Nat)
  | load (copy : Copy) (k : Nat)
  | ended
  deriving DecidableEq, Repr

/-- The boot loader: its stage and the pages it has read, header first (R158, R159). -/
structure BootLoader where
  stage : BootStage
  pagesA : List Page
  pagesB : List Page
  deriving DecidableEq, Repr

/-! ### Hold-up controller (09) -/

/-- R167. -/
inductive FlushState where
  | none | flushing | done
  deriving DecidableEq, Repr

/-! ### Management link (10) -/

/-- The commands of the table of R180. -/
inductive Command where
  | getId | getStatus | getEvents | clearEvents | setEnables | getCapture | releaseCapture | getCounter
  | clearCounters | queryPage | readRecord | getConfig | setConfig | setRegion | sync | save | rearm
  deriving DecidableEq, Repr

/-- The frame states of R179, with `none` between frames and `ignored` for a frame that straddles a reset (R183).
RESPONSE holds the bytes not yet sent, the status first. -/
inductive Frame where
  | none
  | command
  | arguments (c : Command) (taken : List Byte)
  | response (rest : List Byte)
  | drain
  | ignored
  deriving DecidableEq, Repr

/-- R183. -/
inductive LongCommand where
  | none | sync | save
  deriving DecidableEq, Repr

/-- R183. -/
inductive SyncOutcome where
  | none | complete | pinnedRemain
  deriving DecidableEq, Repr

/-- The management link; `lcs` says that LCS# is asserted (R178). -/
structure Link where
  lcs : Bool
  frame : Frame
  longCommand : LongCommand
  lastSync : SyncOutcome
  deriving DecidableEq, Repr

/-! ### Event unit (11) -/

/-- The kinds of a captured error (R199). -/
inductive ErrorKind where
  | rdstall | wrstall | range | locked | hdrop | verify | spout | mstale | memtimeout | size
  deriving DecidableEq, Repr

/-- A captured error: kind, address field, time stamp (R199). -/
structure CapturedError where
  kind : ErrorKind
  addr : BitVec 24
  stamp : Stamp
  deriving DecidableEq, Repr

/-- The event unit (R197 to R202). Bit n of `flags` and `enables` is flag n of the table of R197. -/
structure EventUnit where
  flags : BitVec 15
  enables : BitVec 15
  capture : Option CapturedError
  overflow : BitVec 8
  counters : Vector (BitVec 32) 10
  resetLoss : BitVec 16
  lossPending : Bool
  deriving DecidableEq, Repr

/-! ### The whole -/

/-- The sampled straps (R3, R4). -/
structure Straps where
  msize : BitVec 2
  spare : BitVec 2
  deriving DecidableEq, Repr

/-- The timebase: 100 µs ticks since the last 1 ms tick, and the time stamp (R21). -/
structure Timebase where
  phase : Nat
  stamp : Stamp
  deriving DecidableEq, Repr

/-- The machine. -/
structure State where
  /-- The waiting commands, first in, first out (the row's own; log 12). -/
  pending : List Instr
  /-- A reset is asserted and not yet released (R3, R79). -/
  inReset : Bool
  mode : Mode
  straps : Straps
  time : Timebase
  boot : BootLoader
  host : HostPort
  regions : RegionTable
  cfg : Settings
  table : SettleTable
  ce : CommitEngine
  port : PortState
  pnv : Pnv
  remap : RemapUnit
  store : MapStore
  flush : FlushState
  /-- PFW# is asserted (R167). -/
  pfw : Bool
  link : Link
  events : EventUnit
  /-- The model's own: how many orders of same-step capture offers have been drawn (log 8). -/
  choices : Nat
  deriving DecidableEq, Repr

/-- Why the machine stops: never. The manual gives every row an effect in every state, and calls "fault" a mode that
the part goes on in (R122, R123); so there is no constructor. -/
inductive Fault where
  deriving DecidableEq, Repr

/-- Why a command is refused. Safe: nothing is claimed of a refused command. -/
inductive Refusal where
  /-- Raised by an arm of `exec` for a command that has no meaning yet; no arm raises it now. Safe. -/
  | notModelled (mnemonic : String)
  deriving DecidableEq, Repr

/-! ### Reset values -/

/-- A FREE entry (R19, R48). -/
def Entry.freed : Entry :=
  { state := .free, page := none, image := Vector.replicate 64 none, changed := Vector.replicate 64 false,
    quiet := none, age := none, ageStart := none, deadlinePassed := false, promoteAtEnd := false, syncMark := false }

/-- R48. -/
def SettleTable.reset : SettleTable :=
  { entries := Vector.replicate 32 Entry.freed, dueQueue := [], cleanList := [] }

/-- The default policy record (R61). -/
def PolicyRecord.reset : PolicyRecord := { policy := .absorb, quiet := 40, age := 1000 }

/-- R61. -/
def RegionTable.reset : RegionTable :=
  { dflt := PolicyRecord.reset, region := Vector.replicate 4 { first := 0, count := 0, record := PolicyRecord.reset } }

/-- R144, R164. -/
def Settings.reset : Settings :=
  { budget := 8, retryLimit := 1, writeStall := 50, readStall := 50, filler := 0xFF#8, sparesLow := 4 }

/-- R4, R15, R133. -/
def RemapUnit.reset : RemapUnit :=
  { built := false, spares := 0, capacity := 0, records := [], lowReport := .clear }

/-- R144 gives job target, job sequence and job step no reset value. They are A, 0 and the program of page 0 (DESIGN
CHOICE, log 21). -/
def PersistJob.reset : PersistJob := { target := .a, sequence := 0#32, page := 0, step := .program, image := [] }

/-- R144. -/
def MapStore.reset : MapStore :=
  { current := none, sequence := 0#32, status := .saved, persistAgain := false, jobRunning := false,
    jobData := PersistJob.reset, changedSince := false, freshTarget := .a, saveRequest := .none, startDue := false, saveReport := none }

/-- R158: CLOCK lasts until the 16th 1 ms tick after release. -/
def BootLoader.reset : BootLoader := { stage := .clock 16, pagesA := [], pagesB := [] }

/-- R197 to R202, after power-on reset. -/
def EventUnit.reset : EventUnit :=
  { flags := 0#15, enables := 0x07FF#15, capture := none, overflow := 0#8, counters := Vector.replicate 10 0#32,
    resetLoss := 0#16, lossPending := false }

/-- The machine right after power-on reset, with the reset still asserted: RELEASE_FROM_RESET is the row that samples
the straps and begins boot (R3). The input pins stand released and the PNV lists nothing (logs 4, 9). -/
def State.reset : State :=
  { pending := []
    inReset := true
    mode := .boot
    straps := { msize := 0#2, spare := 0#2 }
    time := { phase := 0, stamp := 0#32 }
    boot := BootLoader.reset
    host := { bus := .idle, pend := none, readByte := none, strobe := none }
    regions := RegionTable.reset
    cfg := Settings.reset
    table := SettleTable.reset
    ce := { stage := .idle, record := none }
    port := .idle
    pnv := { cells := [], busy := none }
    remap := RemapUnit.reset
    store := MapStore.reset
    flush := .none
    pfw := false
    link := { lcs := false, frame := .none, longCommand := .none, lastSync := .none }
    events := EventUnit.reset
    choices := 0 }

/-! ### Named updates, one per field -/

/-- The state with `pending` replaced. -/
def State.setPending (s : State) (v : List Instr) : State := { s with pending := v }

/-- The state with `inReset` replaced. -/
def State.setInReset (s : State) (v : Bool) : State := { s with inReset := v }

/-- The state with `mode` replaced. -/
def State.setMode (s : State) (v : Mode) : State := { s with mode := v }

/-- The state with `straps` replaced. -/
def State.setStraps (s : State) (v : Straps) : State := { s with straps := v }

/-- The state with `time` replaced. -/
def State.setTime (s : State) (v : Timebase) : State := { s with time := v }

/-- The state with `boot` replaced. -/
def State.setBoot (s : State) (v : BootLoader) : State := { s with boot := v }

/-- The state with `host` replaced. -/
def State.setHost (s : State) (v : HostPort) : State := { s with host := v }

/-- The state with `regions` replaced. -/
def State.setRegions (s : State) (v : RegionTable) : State := { s with regions := v }

/-- The state with `cfg` replaced. -/
def State.setCfg (s : State) (v : Settings) : State := { s with cfg := v }

/-- The state with `table` replaced. -/
def State.setTable (s : State) (v : SettleTable) : State := { s with table := v }

/-- The state with `ce` replaced. -/
def State.setCe (s : State) (v : CommitEngine) : State := { s with ce := v }

/-- The state with `port` replaced. -/
def State.setPort (s : State) (v : PortState) : State := { s with port := v }

/-- The state with `pnv` replaced. -/
def State.setPnv (s : State) (v : Pnv) : State := { s with pnv := v }

/-- The state with `remap` replaced. -/
def State.setRemap (s : State) (v : RemapUnit) : State := { s with remap := v }

/-- The state with `store` replaced. -/
def State.setStore (s : State) (v : MapStore) : State := { s with store := v }

/-- The state with `flush` replaced. -/
def State.setFlush (s : State) (v : FlushState) : State := { s with flush := v }

/-- The state with `pfw` replaced. -/
def State.setPfw (s : State) (v : Bool) : State := { s with pfw := v }

/-- The state with `link` replaced. -/
def State.setLink (s : State) (v : Link) : State := { s with link := v }

/-- The state with `events` replaced. -/
def State.setEvents (s : State) (v : EventUnit) : State := { s with events := v }

/-- The state with `choices` replaced. -/
def State.setChoices (s : State) (v : Nat) : State := { s with choices := v }

end Sys2Proof.Machine
end

