-- ==== Sys2Proof/Machine/Operands.lean ====
section
/-!
DEFINITION. How the rows read their operands: the split of a host address, sets of offsets, partly known pages, and
big-endian numbers in link arguments and stored copies.
-/
namespace Sys2Proof.Machine

/-! ### Host addresses -/

/-- L = A div 64 (R1). -/
def logicalPage (a : HostAddr) : Nat := a.toNat / 64

/-- A mod 64 (R1). -/
def pageOffset (a : HostAddr) : Offset := ⟨a.toNat % 64, Nat.mod_lt _ (by decide)⟩

/-! ### Sets of offsets -/

def noOffsets : OffsetSet := Vector.replicate 64 false

def addOffset (k : OffsetSet) (o : Offset) : OffsetSet := k.set o true

def unionOffsets (k l : OffsetSet) : OffsetSet := Vector.ofFn fun o => k[o] || l[o]

/-- The size of a set: its number of members. -/
def countOffsets (k : OffsetSet) : Nat := k.toList.countP id

def offsetsEmpty (k : OffsetSet) : Bool := k.toList.all (!·)

/-! ### Partly known pages -/

/-- The known set: the offsets whose byte is present (R17). -/
def knownSet (p : PartialPage) : OffsetSet := Vector.ofFn fun o => p[o].isSome

/-- At each offset the known byte, or the byte of `m` where none is known (R88). -/
def completeWith (p : PartialPage) (m : Page) : PartialPage := Vector.ofFn fun o => some (p[o].getD m[o])

/-- The 64 bytes of a program buffer. After the fill all are known (R82); an undefined one is a free value (log 7). -/
def definedBytes (p : PartialPage) : Page := Vector.ofFn fun o => p[o].getD (Config.undefinedByte o)

/-- The offsets at which two pages differ. -/
def differingOffsets (p m : Page) : OffsetSet := Vector.ofFn fun o => p[o] != m[o]

/-- The difference set D: the offsets in C at which P differs from M (R91). -/
def differenceSet (changed : OffsetSet) (p m : Page) : OffsetSet := Vector.ofFn fun o => changed[o] && (p[o] != m[o])

/-- The residue: the offsets outside C at which P differs from M (R91). -/
def residue (changed : OffsetSet) (p m : Page) : OffsetSet := Vector.ofFn fun o => !changed[o] && (p[o] != m[o])

/-! ### Big-endian numbers (R145, R178) -/

/-- The number of two bytes, the more significant first. -/
def num16 (hi lo : Byte) : Nat := hi.toNat * 256 + lo.toNat

/-- The 32-bit number of four bytes, the most significant first. -/
def num32 (b3 b2 b1 b0 : Byte) : BitVec 32 := b3 ++ b2 ++ b1 ++ b0

/-- A number in two bytes. -/
def bytes16 (n : Nat) : List Byte := [BitVec.ofNat 8 (n / 256), BitVec.ofNat 8 n]

/-- A 24-bit field in three bytes. -/
def bytes24 (w : BitVec 24) : List Byte := [w.extractLsb' 16 8, w.extractLsb' 8 8, w.extractLsb' 0 8]

/-- A 32-bit number in four bytes. -/
def bytes32 (w : BitVec 32) : List Byte :=
  [w.extractLsb' 24 8, w.extractLsb' 16 8, w.extractLsb' 8 8, w.extractLsb' 0 8]

/-- A 16-bit word in two bytes. -/
def wordBytes (w : BitVec 16) : List Byte := [w.extractLsb' 8 8, w.extractLsb' 0 8]

/-- Policy codes in stored and transferred forms (R49). -/
def policyCode : Policy → Nat
  | .absorb => 0
  | .through => 1
  | .locked => 2

/-- R49; a code above 2 names no policy. -/
def policyOfCode : Nat → Option Policy
  | 0 => some .absorb
  | 1 => some .through
  | 2 => some .locked
  | _ => none

end Sys2Proof.Machine
end

