-- ==== Sys2Proof/Machine/Ops.lean ====
section
/-!
DEFINITION. The PNV as the memory port addresses it (R3, R111 to R115): physical addresses, reads and programs of its
array in canonical form, the end of a program, and the pins of an operation.
-/
namespace Sys2Proof.Machine

/-- P, the page count that the MSIZE code fixes (R3). -/
def pageCount (msize : BitVec 2) : Nat := 4096 * 2 ^ msize.toNat

/-- The spare count that the SPARE code gives a fresh map (R4). -/
def spareCount (code : BitVec 2) : Nat := 32 * 2 ^ code.toNat

/-- The byte address on MA for an offset of a physical page; the lines above the size are driven low (R3, R112). -/
def pnvAddress (msize : BitVec 2) (page : Nat) (o : Offset) : Nat := (page * 64 + o.val) % (pageCount msize * 64)

/-- What the array holds at an address: its entry, or the byte of an address that is not listed. -/
def readCell : List Host.Cell → Nat → Byte
  | [], _ => Config.unwrittenByte
  | (k, b) :: rest, a => if k = a then b else readCell rest a

/-- The array with one byte replaced, in canonical form. -/
def writeCell : List Host.Cell → Nat → Byte → List Host.Cell
  | [], a, v => if v = Config.unwrittenByte then [] else [(a, v)]
  | (k, b) :: rest, a, v =>
    if a < k then (if v = Config.unwrittenByte then (k, b) :: rest else (a, v) :: (k, b) :: rest)
    else if a = k then (if v = Config.unwrittenByte then rest else (a, v) :: rest)
    else (k, b) :: writeCell rest a v

/-- The canonical form: addresses strictly rising, and no entry equal to what an unlisted address reads as. -/
abbrev Memory.wf (cells : List Host.Cell) : Prop :=
  cells.Pairwise (fun x y => x.1 < y.1) ∧ ∀ c ∈ cells, c.2 ≠ Config.unwrittenByte

/-- The 64 bytes of a physical page (R114). -/
def readCells (cells : List Host.Cell) (msize : BitVec 2) (page : Nat) : Page :=
  Vector.ofFn fun o => readCell cells (pnvAddress msize page o)

/-- The whole content of a physical page replaced (R111). -/
def writeCells (cells : List Host.Cell) (msize : BitVec 2) (page : Nat) (p : Page) : List Host.Cell :=
  (List.finRange 64).foldl (fun c o => writeCell c (pnvAddress msize page o) p[o]) cells

/-- The result of a PAGE READ of a physical page as the PNV stands (R114, R127). -/
def State.readPage (s : State) (page : Nat) : Page := readCells s.pnv.cells s.straps.msize page

/-- The result of a BYTE READ (R113). -/
def State.readByte (s : State) (page : Nat) (o : Offset) : Byte := (s.readPage page)[o]

/-- What a program leaves: the latch, or what the operand says (R111). -/
def programLeaves (latch : Page) : ProgramResult → Page
  | .took => latch
  | .left content => content

/-- The PNV takes 64 bytes for a page and begins to program it (R111, R115). -/
def State.startProgram (s : State) (page : Nat) (bytes : Page) : State :=
  s.setPnv { s.pnv with busy := some (page, bytes) }

/-- The PNV ends the program it is in: the page holds the result (R111). `msize` is the size code under which the page
was put on MA. -/
def State.endProgramAt (msize : BitVec 2) (result : ProgramResult) (s : State) : State :=
  match s.pnv.busy with
  | none => s
  | some (page, latch) =>
    s.setPnv { cells := writeCells s.pnv.cells msize page (programLeaves latch result), busy := none }

/-- The program of the port's own PAGE PROGRAM ends: the straps have not changed since its grant (R3). -/
def State.endProgram (s : State) (result : ProgramResult) : State := s.endProgramAt s.straps.msize result

/-- The size code under which no line of MA is driven low (R3). -/
def wholeAddress : BitVec 2 := 3#2

/-- A program that a reset cut off ends in the page it was given, whatever the straps sampled since (R111, R125). -/
def State.endCutProgram (result : ProgramResult) (s : State) : State := s.endProgramAt wholeAddress result

/-- A PAGE PROGRAM is in progress at the port (R117). -/
def isProgramming : PortState → Bool
  | .programming _ _ _ => true
  | _ => false

/-- A reset cuts off the operation in progress (R125). A PAGE PROGRAM short of its 64th write cycle starts no program and
the page keeps its content; past it the PNV goes on. How far the load had come is a free value (log 6). -/
def State.cutOperation (s : State) : State :=
  if isProgramming s.port then
    (s.setPnv (if Config.latchLoadComplete s.choices then s.pnv else { s.pnv with busy := none })).setChoices
      (s.choices + 1)
  else s

/-- The level on MRDY as the READY stage finds it: low while the PNV is in a program (R111, R124). -/
def mrdyIsHigh (v : Pnv) : Bool := v.busy.isNone

/-! ### The pins of an operation (R112 to R115) -/

/-- One PNV bus cycle: the address on MA, and in a write cycle the byte on MD. -/
inductive Cycle where
  | read (address : Nat)
  | write (address : Nat) (byte : Option Byte)
  deriving DecidableEq, Repr

/-- What the port drives: whether MCS#, MRD# and MWR# are asserted, MA, and MD where the part drives it. -/
structure PnvPins where
  mcs : Bool
  mrd : Bool
  mwr : Bool
  ma : Nat
  md : Option Byte
  deriving DecidableEq, Repr

/-- The pins between operations, in FAULTED and in reset: strobes released, MD not driven, MA driven low (R112, R125). -/
def PnvPins.idle : PnvPins := { mcs := false, mrd := false, mwr := false, ma := 0, md := none }

/-- The pins during a cycle (R111, R112). -/
def Cycle.pins : Cycle → PnvPins
  | .read a => { mcs := true, mrd := true, mwr := false, ma := a, md := none }
  | .write a b => { mcs := true, mrd := false, mwr := true, ma := a, md := b }

/-- The page a read addresses. -/
def readOpPage : ReadOp → Nat
  | .hostByte p _ => p
  | .fill p => p
  | .verify p => p
  | .mapVerify p => p
  | .load p => p

/-- The cycles of the operation in progress: one read cycle for a BYTE READ, 64 in ascending order for a PAGE READ, 64
write cycles in ascending order for a PAGE PROGRAM; none when IDLE or FAULTED, where the strobes are released. A PAGE
PROGRAM is in progress until MRDY rises, and the manual does not say what the pins carry after its 64th write cycle:
nothing is listed for that time (DESIGN CHOICE, log 14). -/
def State.cycles (s : State) : List Cycle :=
  match s.port with
  | .idle => []
  | .faulted => []
  | .reading (.hostByte p o) => [.read (pnvAddress s.straps.msize p o)]
  | .reading op =>
    (List.finRange 64).map fun o => .read (pnvAddress s.straps.msize (readOpPage op) o)
  | .programming _ p _ =>
    (List.finRange 64).map fun o => .write (pnvAddress s.straps.msize p o) (s.pnv.busy.map fun q => q.2[o])

/-- What the port drives, in the order it drives it: the idle levels while there is no operation, the cycles of the
operation in progress otherwise (R112). What the pins carry from one cycle to the next, and in PROGRAMMING from the 64th
write cycle until MRDY rises, the manual does not say, and no level is listed for it (DESIGN CHOICE, log 14). -/
def State.pnvPins (s : State) : List PnvPins :=
  match s.port with
  | .idle => [PnvPins.idle]
  | .faulted => [PnvPins.idle]
  | _ => s.cycles.map Cycle.pins

end Sys2Proof.Machine
end

