-- ==== Sys2Proof/Machine/Regions.lean ====
section
/-!
DEFINITION. The region unit (03): the checks of R50 and the match of a page to its policy record.
-/
namespace Sys2Proof.Machine

/-- The checks of R50 on quiet and age (a policy that is held is already one of the three). -/
def recordValid (p : PolicyRecord) : Bool :=
  1 ≤ p.quiet && p.quiet ≤ 4095 && 10 ≤ p.age && p.age ≤ 65535 && p.quiet ≤ p.age

/-- The checks of R50 on a region record, against Lcap. -/
def regionValid (capacity : Nat) (g : Region) : Bool := recordValid g.record && g.first + g.count ≤ capacity

/-- Whether an enabled region contains a page; a region with count 0 contains none (R49, R51). -/
def regionContains (g : Region) (page : Nat) : Bool := g.first ≤ page && page < g.first + g.count

/-- The policy record of a page: of the enabled region with the lowest index that contains it, else the default
(R51). -/
def resolvePolicy (t : RegionTable) (page : Nat) : PolicyRecord :=
  match t.region.toList.find? fun g => regionContains g page with
  | some g => g.record
  | none => t.dflt

end Sys2Proof.Machine
end

