-- ==== Sys2Proof/Machine/Flags.lean ====
section
/-!
DEFINITION. The event unit (11): event flags and ALERT#, the error capture record, the statistics counters.
-/
namespace Sys2Proof.Machine

/-- The fifteen flags (R197). -/
inductive Flag where
  | rdstall | wrstall | range | locked | hdrop | remap | splow | spout | mstale | mfault | loss | syncdn | savedn
  | holddn | fresh
  deriving DecidableEq, Repr

/-- The bit of a flag in the flag word (R197). -/
def flagBit : Flag → Nat
  | .rdstall => 0 | .wrstall => 1 | .range => 2 | .locked => 3 | .hdrop => 4 | .remap => 5 | .splow => 6
  | .spout => 7 | .mstale => 8 | .mfault => 9 | .loss => 10 | .syncdn => 11 | .savedn => 12 | .holddn => 13
  | .fresh => 14

/-- Whether a flag is set in a word of flags or enables. -/
def flagIn (w : BitVec 15) (f : Flag) : Bool := w.getLsbD (flagBit f)

/-- A cause is reported: its flag is set, whatever its enable and its value (R197). -/
def raiseFlag (f : Flag) (e : EventUnit) : EventUnit := { e with flags := e.flags ||| (1#15 <<< flagBit f) }

/-- ALERT# is asserted exactly while a flag and its enable are both set (R198). -/
def alertAsserted (e : EventUnit) : Bool := (e.flags &&& e.enables) != 0#15

/-- The codes of the kinds of error (R199). -/
def errorCode : ErrorKind → Byte
  | .rdstall => 1#8 | .wrstall => 2#8 | .range => 3#8 | .locked => 4#8 | .hdrop => 5#8 | .verify => 6#8
  | .spout => 7#8 | .mstale => 8#8 | .memtimeout => 9#8 | .size => 10#8

/-- One more, except at the top of the width. -/
def saturate {w : Nat} (n : BitVec w) : BitVec w := if n = BitVec.allOnes w then n else n + 1

/-- One error is offered: taken into an empty record, otherwise counted in overflow (R199). -/
def offerError (err : CapturedError) (e : EventUnit) : EventUnit :=
  match e.capture with
  | none => { e with capture := some err }
  | some _ => { e with overflow := saturate e.overflow }

/-- RELEASE_CAPTURE empties the record and the overflow count (R200). -/
def emptyCapture (e : EventUnit) : EventUnit := { e with capture := none, overflow := 0#8 }

/-- The ten counters (R201). -/
inductive Counter where
  | hostWritesAccepted | writesMerged | admissions | commits | commitsElided | programs | verifyFails | remaps
  | hostReads | readsFromTable
  deriving DecidableEq, Repr

/-- The place of a counter; GET_COUNTER's index is one more (R187). -/
def counterIndex : Counter → Fin 10
  | .hostWritesAccepted => 0 | .writesMerged => 1 | .admissions => 2 | .commits => 3 | .commitsElided => 4
  | .programs => 5 | .verifyFails => 6 | .remaps => 7 | .hostReads => 8 | .readsFromTable => 9

/-- A counter rises by one and stays at its maximum (R201). -/
def addCount (c : Counter) (e : EventUnit) : EventUnit :=
  { e with counters := e.counters.set (counterIndex c) (saturate e.counters[counterIndex c]) }

/-- The reset-loss count rises by the number handed and stays at 65535; loss-pending is set by a number above 0
(R202). -/
def addLoss (n : Nat) (e : EventUnit) : EventUnit :=
  { e with resetLoss := BitVec.ofNat 16 (min (e.resetLoss.toNat + n) 65535), lossPending := e.lossPending || n != 0 }

/-! ### On the state -/

/-- Set a flag. -/
def State.raise (f : Flag) (s : State) : State := s.setEvents (raiseFlag f s.events)

/-- Offer an error, with the time stamp as it stands (R199). -/
def State.offer (kind : ErrorKind) (addr : Nat) (s : State) : State :=
  s.setEvents (offerError { kind, addr := BitVec.ofNat 24 addr, stamp := s.time.stamp } s.events)

/-- Add one to a counter. -/
def State.count (c : Counter) (s : State) : State := s.setEvents (addCount c s.events)

/-- Several offers in one step are taken one after the other in either order, and the first taken is the one held
(R199). Which is first is a free value (log 8); the rest can only be counted, so their order shows nowhere. -/
def State.offerUnordered (errs : List (ErrorKind × Nat)) (s : State) : State :=
  match errs with
  | [] => s
  | [e] => s.offer e.1 e.2
  | _ =>
    let k := Config.firstOffer s.choices % errs.length
    let ordered := (errs.drop k).take 1 ++ errs.eraseIdx k
    (ordered.foldl (fun t e => t.offer e.1 e.2) s).setChoices (s.choices + 1)

end Sys2Proof.Machine
end

