-- ==== Sys2Proof/Machine/RemapUnit.lean ====
section
/-!
DEFINITION. The remap unit (01) and the spares-low test (07): resolution, allocation, the REMAP and RETIRE changes.
-/
namespace Sys2Proof.Machine

/-- Spare s is physical page 34 + s (01, section 1.2). -/
def sparePage (s : Nat) : Nat := 34 + s

/-- The home page of L is 34 + S + L (R4). -/
def homePage (spares page : Nat) : Nat := 34 + spares + page

/-- The free spare count S − record count (R7). -/
def freeSpares (r : RemapUnit) : Nat := r.spares - r.records.length

/-- Whether a record names a spare. -/
def spareNamed (r : RemapUnit) (n : Nat) : Bool := r.records.any fun m => m.spare == n

/-- The spare that a REMAP record gives a logical page, if one does (R8). -/
def remapOf (r : RemapUnit) (page : Nat) : Option Nat :=
  (r.records.find? fun m => m.kind == .remap && m.page == page).map (·.spare)

/-- Resolution of a logical page: its target (R8). -/
def resolveTarget (r : RemapUnit) (page : Nat) : Target :=
  match remapOf r page with
  | some n => .spare n
  | none => .home

/-- The physical page of a target (R82). -/
def targetPage (r : RemapUnit) (page : Nat) : Target → Nat
  | .home => homePage r.spares page
  | .spare n => sparePage n

/-- Resolution of a logical page: its physical page (R8). -/
def resolvePage (r : RemapUnit) (page : Nat) : Nat := targetPage r page (resolveTarget r page)

/-- Allocation: the lowest spare index in the pool, or none (R9). -/
def allocate (r : RemapUnit) : Option Nat := (List.range r.spares).find? fun n => !spareNamed r n

/-- A record placed where its spare index falls in the ascending order (R6). -/
def placeRecord (m : MapRecord) : List MapRecord → List MapRecord
  | [] => [m]
  | x :: rest => if m.spare < x.spare then m :: x :: rest else x :: placeRecord m rest

/-- A REMAP record of the page becomes RETIRED in its place, with logical page 0 (R10). -/
def retireOld (page : Nat) (m : MapRecord) : MapRecord :=
  if m.kind == .remap && m.page == page then { m with kind := .retired, page := 0 } else m

/-- The REMAP change for a logical page and a spare (R10). -/
def remapChange (page n : Nat) (r : RemapUnit) : RemapUnit :=
  { r with records := placeRecord { kind := .remap, spare := n, page := page } (r.records.map (retireOld page)) }

/-- The RETIRE change for a spare (R11). -/
def retireChange (n : Nat) (r : RemapUnit) : RemapUnit :=
  { r with records := placeRecord { kind := .retired, spare := n, page := 0 } r.records }

/-- The spares-low test, made at a fall of the free spare count (R133). -/
def State.sparesLowTest (s : State) : State :=
  if s.remap.lowReport = .clear ∧ freeSpares s.remap ≤ s.cfg.sparesLow ∧ s.cfg.sparesLow ≠ 0 then
    (s.setRemap { s.remap with lowReport := .made }).raise .splow
  else s

end Sys2Proof.Machine
end

