-- ==== Sys2Proof/Machine/MapFormat.lean ====
section
/-!
DEFINITION. The stored map copies (08, sections 8.2 and 8.5): their layout, the CRC, and the checks of R160.
-/
namespace Sys2Proof.Machine

/-- What a copy stores (R145): the size code, the sequence number, S, the records, and the working configuration. -/
structure StoredMap where
  sizeCode : Nat
  sequence : BitVec 32
  spares : Nat
  records : List MapRecord
  regions : RegionTable
  cfg : Settings
  deriving DecidableEq, Repr

/-- The physical page of a copy's header (R145). -/
def copyBase : Copy → Nat
  | .a => 0
  | .b => 17

/-- The other copy. -/
def otherCopy : Copy → Copy
  | .a => .b
  | .b => .a

/-- The number of record pages that n records use (R145). -/
def usedPages (n : Nat) : Nat := (n + 15) / 16

/-! ### CRC (R147) -/

/-- One bit into the check register. -/
def crcBit (r : BitVec 16) (bit : Bool) : BitVec 16 :=
  if bit ^^ r.msb then (r <<< 1) ^^^ 0x1021#16 else r <<< 1

/-- The bits of one byte, from the most significant. -/
def crcByte (r : BitVec 16) (x : Byte) : BitVec 16 :=
  [7, 6, 5, 4, 3, 2, 1, 0].foldl (fun r i => crcBit r (x.getLsbD i)) r

/-- The check register after a list of bytes, from FFFFh. -/
def crc16 (bytes : List Byte) : BitVec 16 := bytes.foldl crcByte 0xFFFF#16

/-! ### Writing a copy (R145, R146, R151) -/

def signature : List Byte := [0x47#8, 0x52#8, 0x4A#8, 0x4D#8]

def kindCode : RecordKind → Byte
  | .remap => 1#8
  | .retired => 2#8

/-- The nine bytes of a stored region record (R145); GET_CONFIG answers the same nine (R190). -/
def regionBytes (g : Region) : List Byte :=
  bytes16 g.first ++ bytes16 g.count ++ [BitVec.ofNat 8 (policyCode g.record.policy)] ++ bytes16 g.record.quiet
    ++ bytes16 g.record.age

/-- Header bytes 0 to 61 (R145). -/
def headerFields (m : StoredMap) : List Byte :=
  signature ++ [0x01#8, BitVec.ofNat 8 m.sizeCode] ++ bytes32 m.sequence ++ bytes16 m.spares
    ++ bytes16 m.records.length ++ [BitVec.ofNat 8 (policyCode m.regions.dflt.policy)]
    ++ bytes16 m.regions.dflt.quiet ++ bytes16 m.regions.dflt.age
    ++ [BitVec.ofNat 8 m.cfg.budget, BitVec.ofNat 8 m.cfg.retryLimit, BitVec.ofNat 8 m.cfg.writeStall,
        BitVec.ofNat 8 m.cfg.readStall, m.cfg.filler]
    ++ bytes16 m.cfg.sparesLow
    ++ regionBytes m.regions.region[0] ++ regionBytes m.regions.region[1] ++ regionBytes m.regions.region[2]
    ++ regionBytes m.regions.region[3]

/-- Byte j, 0 to 3, of a stored record (R146). -/
def recordByte (r : MapRecord) (j : Nat) : Byte :=
  match j with
  | 0 => kindCode r.kind
  | 1 => BitVec.ofNat 8 r.spare
  | 2 => BitVec.ofNat 8 (r.page / 256)
  | _ => BitVec.ofNat 8 r.page

/-- Record page k, from 1: records 16 (k − 1) and up, four bytes each, 00h where there is no record (R146). -/
def recordPage (records : List MapRecord) (k : Nat) : Page :=
  Vector.ofFn fun o =>
    match records[16 * (k - 1) + o.val / 4]? with
    | some r => recordByte r (o.val % 4)
    | none => 0#8

/-- The used record pages in ascending order. -/
def recordPages (records : List MapRecord) : List Page :=
  (List.range (usedPages records.length)).map fun k => recordPage records (k + 1)

/-- The bytes that the CRC covers (R147): 62 of the header, then the used record pages. -/
def coveredBytes (fields : List Byte) (pages : List Page) : List Byte := fields ++ pages.flatMap (·.toList)

/-- The header page: its fields, then the CRC, high byte first (R145, R147). -/
def headerPage (m : StoredMap) : Page :=
  let crc := crc16 (coveredBytes (headerFields m) (recordPages m.records))
  Vector.ofFn fun o => (headerFields m ++ wordBytes crc).getD o.val 0#8

/-- A copy, header first (R151). -/
def copyPages (m : StoredMap) : List Page := headerPage m :: recordPages m.records

/-! ### Reading a copy (R159, R160) -/

/-- The first page read of a copy. -/
def headerOf (pages : List Page) : Page := pages.headD (Vector.replicate 64 0#8)

/-- The signature is 47h 52h 4Ah 4Dh. -/
def signatureOk (h : Page) : Bool := h[0] == 0x47#8 && h[1] == 0x52#8 && h[2] == 0x4A#8 && h[3] == 0x4D#8

/-- The record count of a header. -/
def headerCount (h : Page) : Nat := num16 h[12] h[13]

/-- How many record pages the boot loader reads for a copy with this header (R159). -/
def pagesToLoad (h : Page) : Nat := if signatureOk h && headerCount h ≤ 256 then usedPages (headerCount h) else 0

/-- The policy record that three header fields hold; the codes are checked apart. -/
def storedPolicy (p q1 q0 a1 a0 : Byte) : PolicyRecord :=
  { policy := (policyOfCode p.toNat).getD .absorb, quiet := num16 q1 q0, age := num16 a1 a0 }

/-- The region record that starts at a header byte: 26, 35, 44 or 53 for regions 0 to 3 (R145). -/
def storedRegion (h : Page) (r : Fin 4) : Region :=
  let at' (j : Fin 9) : Byte := h[26 + 9 * r.val + j.val]
  { first := num16 (at' 0) (at' 1), count := num16 (at' 2) (at' 3),
    record := storedPolicy (at' 4) (at' 5) (at' 6) (at' 7) (at' 8) }

/-- Byte j of stored record i of the record pages. -/
def storedRecordByte (recs : List Page) (i : Nat) (j : Fin 4) : Byte :=
  match recs[i / 16]? with
  | some p => p[4 * (i % 16) + j.val]
  | none => 0#8

/-- Stored record i; its kind code is checked apart. -/
def storedRecord (recs : List Page) (i : Nat) : MapRecord :=
  { kind := if storedRecordByte recs i 0 = 1#8 then .remap else .retired,
    spare := (storedRecordByte recs i 1).toNat, page := num16 (storedRecordByte recs i 2) (storedRecordByte recs i 3) }

/-- What the pages read of a copy say (R145, R146). -/
def loadCopy (pages : List Page) : StoredMap :=
  let h := headerOf pages
  { sizeCode := h[5].toNat
    sequence := num32 h[6] h[7] h[8] h[9]
    spares := num16 h[10] h[11]
    records := (List.range (headerCount h)).map (storedRecord pages.tail)
    regions := { dflt := storedPolicy h[14] h[15] h[16] h[17] h[18], region := Vector.ofFn (storedRegion h) }
    cfg := { budget := h[19].toNat, retryLimit := h[20].toNat, writeStall := h[21].toNat, readStall := h[22].toNat,
             filler := h[23], sparesLow := num16 h[24] h[25] } }

/-- Checks 1 and 2 of R160: signature, record count, CRC. -/
def copyGenuine (pages : List Page) : Bool :=
  let h := headerOf pages
  signatureOk h && headerCount h ≤ 256
    && crc16 (coveredBytes (h.toList.take 62) pages.tail) == h[62] ++ h[63]

/-- The policy codes of the default record and the four regions each name a policy (R50). -/
def policyCodesOk (h : Page) : Bool :=
  h[14].toNat ≤ 2 && h[30].toNat ≤ 2 && h[39].toNat ≤ 2 && h[48].toNat ≤ 2 && h[57].toNat ≤ 2

/-- The kind codes of the records are 01h or 02h (R160, check 8). -/
def kindCodesOk (pages : List Page) : Bool :=
  (List.range (headerCount (headerOf pages))).all fun i =>
    storedRecordByte pages.tail i 0 == 1#8 || storedRecordByte pages.tail i 0 == 2#8

/-- Check 7 of R160. -/
def settingsValid (c : Settings) : Bool :=
  1 ≤ c.budget && c.budget ≤ 32 && c.retryLimit ≤ 3 && 1 ≤ c.writeStall && c.writeStall ≤ 255 && 1 ≤ c.readStall
    && c.readStall ≤ 255 && c.sparesLow ≤ 256

/-- S is one of the four spare counts (R4). -/
def sparesValid (n : Nat) : Bool := n == 32 || n == 64 || n == 128 || n == 256

/-- Lcap = P − 34 − S (R4). -/
def logicalCapacity (msize : BitVec 2) (spares : Nat) : Nat := pageCount msize - 34 - spares

/-- Checks 8 and 9 of R160 on the records, for S and Lcap. -/
def recordsValid (spares capacity : Nat) (rs : List MapRecord) : Bool :=
  decide ((rs.map (·.spare)).Pairwise (· < ·)) && rs.all (fun r => r.spare < spares)
    && rs.all (fun r => r.kind == .remap || r.page == 0)
    && rs.all (fun r => r.kind == .retired || r.page < capacity)
    && decide (((rs.filter fun r => r.kind == .remap).map (·.page)).Nodup)

/-- The checks of R160 after the first three, on what a copy says. -/
def contentsValid (msize : BitVec 2) (m : StoredMap) : Bool :=
  let capacity := logicalCapacity msize m.spares
  sparesValid m.spares && m.records.length ≤ m.spares && recordValid m.regions.dflt
    && m.regions.region.toList.all (regionValid capacity) && settingsValid m.cfg
    && recordsValid m.spares capacity m.records

/-- A copy is valid (R160). -/
def copyValid (msize : BitVec 2) (pages : List Page) : Bool :=
  let h := headerOf pages
  copyGenuine pages && h[5].toNat == msize.toNat && h[4] == 0x01#8 && policyCodesOk h && kindCodesOk pages
    && contentsValid msize (loadCopy pages)

/-- A copy is a size mismatch: checks 1 and 2 hold and check 3 does not (R161). -/
def sizeMismatch (msize : BitVec 2) (pages : List Page) : Bool :=
  copyGenuine pages && (headerOf pages)[5].toNat != msize.toNat

/-- Sequence number a is newer than b: (a − b) modulo 2^32 lies in 1 to 2^31 − 1 (R162). -/
def newerSequence (a b : BitVec 32) : Bool := 1 ≤ (a - b).toNat && (a - b).toNat ≤ 2 ^ 31 - 1

/-- The copy that SELECT chooses when neither is a size mismatch (R162). -/
def selectCopy (msize : BitVec 2) (a b : List Page) : Option Copy :=
  match copyValid msize a, copyValid msize b with
  | true, false => some .a
  | false, true => some .b
  | true, true => if newerSequence (loadCopy b).sequence (loadCopy a).sequence then some .b else some .a
  | false, false => none

end Sys2Proof.Machine
end

