-- ==== Sys2Proof/Machine/MapStore.lean ====
section
/-!
DEFINITION. The map store (08, sections 8.3 and 8.4): change reports, the persist job and its ends.
-/
namespace Sys2Proof.Machine

/-- The job that runs, if one does (R144). -/
def MapStore.job (m : MapStore) : Option PersistJob := if m.jobRunning then some m.jobData else none

/-- The job becomes IDLE and the persist image is emptied (R154, R155). Job target, sequence and step stay as the job
left them (DESIGN CHOICE, log 21). -/
def endJob (m : MapStore) : MapStore := { m with jobRunning := false, jobData := { m.jobData with image := [] } }

/-- A map change is reported (R148): PENDING; a job is started when none runs, else persist-again and changed since
snapshot are set. In FAULT no job starts. -/
def State.mapChange (s : State) : State :=
  match s.store.job with
  | none => s.setStore { s.store with status := .pending, startDue := s.store.startDue || s.mode != .fault }
  | some _ => s.setStore { s.store with status := .pending, persistAgain := true, changedSince := true }

/-- A configuration change is reported (R148): PENDING; a running job is followed by another; no job is started. -/
def State.configChange (s : State) : State :=
  match s.store.job with
  | none => s.setStore { s.store with status := .pending }
  | some _ => s.setStore { s.store with status := .pending, persistAgain := true, changedSince := true }

/-- What a job that starts now writes (R151): the working map and configuration, with the next sequence number. -/
def State.toStore (s : State) : StoredMap :=
  { sizeCode := s.straps.msize.toNat, sequence := s.store.sequence + 1, spares := s.remap.spares,
    records := s.remap.records, regions := s.regions, cfg := s.cfg }

/-- The copy a job that starts now targets (R152). -/
def jobTarget (m : MapStore) : Copy :=
  match m.current with
  | some c => otherCopy c
  | none => m.freshTarget

/-- A persist job starts with its snapshot (R151); a SAVE that was WAITING rides on it (R150). -/
def State.startJob (s : State) : State :=
  s.setStore
    { s.store with
      startDue := false, persistAgain := false, changedSince := false
      saveRequest := if s.store.saveRequest = .waiting then .running else s.store.saveRequest
      jobRunning := true
      jobData :=
        { target := jobTarget s.store, sequence := s.store.sequence + 1
          page := if s.remap.records = [] then 0 else 1
          step := .program, image := copyPages s.toStore } }

/-- The physical page that a job's step addresses (R145, R153). -/
def jobPhysical (j : PersistJob) : Nat := copyBase j.target + j.page

/-- The image page that a job's step writes or verifies (R153). -/
def jobPage (j : PersistJob) : Page := j.image.getD j.page (Vector.replicate 64 0#8)

/-- The page after a job's page in the page order: the record pages ascending, then the header (R153). -/
def nextJobPage (j : PersistJob) : Nat := if j.page + 1 < j.image.length then j.page + 1 else 0

/-- The grant of the map store's claim starts its step (R153). -/
def State.grantMapStep (s : State) : State :=
  match s.store.job with
  | none => s
  | some j =>
    match j.step with
    | .program => (s.startProgram (jobPhysical j) (jobPage j)).setPort (.programming .mapStore (jobPhysical j) 25)
    | .verify => s.setPort (.reading (.mapVerify (jobPhysical j)))

/-- The fresh target passes to the other copy when a job fails while no copy is current (R152). -/
def freshTargetAfterFailure (m : MapStore) : Copy :=
  match m.current with
  | none => otherCopy m.freshTarget
  | some _ => m.freshTarget

/-- A SAVE that rides on the job that ends is reported; `ok` says how the job ended (R150). -/
def reportSave (ok : Bool) (m : MapStore) : MapStore :=
  if m.saveRequest = .running then { m with saveRequest := .none, saveReport := some ok } else m

/-- When persist-again is set at the end of a job, it is cleared and a new job starts at once (R154, R155). -/
def startAgain (m : MapStore) : MapStore :=
  if m.persistAgain then { m with persistAgain := false, startDue := true } else m

/-- A job ends failed at a verify mismatch (R154). -/
def State.jobFails (j : PersistJob) (s : State) : State :=
  (((s.raise .mstale).offer .mstale (jobPhysical j * 64))).setStore
    (startAgain (reportSave false
      { endJob s.store with status := .stale, freshTarget := freshTargetAfterFailure s.store }))

/-- A job ends in success at the verify match of its header page (R155). -/
def State.jobSucceeds (j : PersistJob) (s : State) : State :=
  s.setStore
    (startAgain (reportSave true
      { endJob s.store with
        current := some j.target, sequence := j.sequence
        status := if s.store.changedSince then .pending else .saved }))

/-- The verify of a job page is compared with the image page (R154). -/
def State.mapVerified (j : PersistJob) (page : Nat) (s : State) : State :=
  if s.readPage page = jobPage j then
    if j.page = 0 then s.jobSucceeds j
    else s.setStore { s.store with jobData := { j with page := nextJobPage j, step := .program } }
  else s.jobFails j

/-- The map store as entry into FAULT leaves it: a running job ends failed and no other starts; a SAVE in flight is
reported failed (R150, R154). -/
def storeInFault (m : MapStore) : MapStore :=
  let m1 :=
    if m.job.isSome then { endJob m with status := .stale, freshTarget := freshTargetAfterFailure m } else m
  { m1 with
    persistAgain := false, startDue := false, saveRequest := .none
    saveReport := if m.saveRequest = .none then m.saveReport else some false }

/-- Whether the map store holds a claim at a port that is IDLE: a running job is never without one (R153). -/
def mapStoreClaims (s : State) : Bool := s.store.job.isSome

end Sys2Proof.Machine
end

