-- ==== Sys2Proof/Machine/SettleTable.lean ====
section
/-!
DEFINITION. The settle table (02): lookup, admission and merging of writes, promotion, age order, snapshot, and the
ends of a commit.
-/
namespace Sys2Proof.Machine

/-! ### Entries and counts -/

/-- Dirty: SETTLING, DUE, COMMITTING or PINNED (R20). -/
def isDirty (e : Entry) : Bool :=
  match e.state with
  | .settling => true
  | .due => true
  | .committing => true
  | .pinned => true
  | .free => false
  | .clean => false

/-- R20. -/
def dirtyCount (t : SettleTable) : Nat := t.entries.toList.countP isDirty

/-- The entries not FREE (R47). -/
def occupiedCount (t : SettleTable) : Nat := t.entries.toList.countP fun e => e.state != .free

/-- R47. -/
def pinnedCount (t : SettleTable) : Nat := t.entries.toList.countP fun e => e.state == .pinned

/-- The indices whose entry satisfies a test, ascending. -/
def indicesWhere (t : SettleTable) (p : Entry → Bool) : List Index :=
  (List.finRange 32).filter fun i => p t.entries[i]

/-- The lowest index whose entry satisfies a test. -/
def firstIndex (t : SettleTable) (p : Entry → Bool) : Option Index :=
  (List.finRange 32).find? fun i => p t.entries[i]

/-- Whether some entry satisfies a test. -/
def someEntry (t : SettleTable) (p : Entry → Bool) : Bool := t.entries.toList.any p

/-- Whether an entry is in a state. -/
def inState (x : EntryState) (e : Entry) : Bool := e.state == x

/-- The index of the COMMITTING entry, or none (R47). -/
def committingIndex (t : SettleTable) : Option Index := firstIndex t (inState .committing)

/-- The entry for a logical page (R18). -/
def entryFor (t : SettleTable) (page : Nat) : Option Index :=
  firstIndex t fun e => e.state != .free && e.page == some page

/-- One entry changed. -/
def updateEntry (t : SettleTable) (i : Index) (f : Entry → Entry) : SettleTable :=
  { t with entries := t.entries.set i (f t.entries[i]) }

/-- Every entry changed alike. -/
def mapEntries (f : Entry → Entry) (t : SettleTable) : SettleTable :=
  { t with entries := Vector.ofFn fun i => f t.entries[i] }

/-! ### Promotion (R27, R28) -/

/-- An entry becomes DUE and joins the tail of the due queue, as one step (R27). -/
def promote (i : Index) (t : SettleTable) : SettleTable :=
  { updateEntry t i (fun e => { e with state := .due }) with dueQueue := t.dueQueue ++ [i] }

/-- Several entries promoted in order, as one step (R28). -/
def promoteAll (is : List Index) (t : SettleTable) : SettleTable := is.foldl (fun t i => promote i t) t

/-- The time an entry's oldest untaken change has waited: time stamp minus age start, modulo 2^32 (R25). -/
def elapsed (now : Stamp) (e : Entry) : Nat :=
  match e.ageStart with
  | some t => (now - t).toNat
  | none => 0

/-- An index placed before the first that is less old; equal ones keep the order they come in (R25). -/
def placeByAge (now : Stamp) (t : SettleTable) (i : Index) : List Index → List Index
  | [] => [i]
  | j :: rest =>
    if elapsed now t.entries[j] ≤ elapsed now t.entries[i] then i :: j :: rest
    else j :: placeByAge now t i rest

/-- The SETTLING entries, oldest first, lower index first on a tie (R25). -/
def settlingByAge (now : Stamp) (t : SettleTable) : List Index :=
  (indicesWhere t (inState .settling)).foldr (placeByAge now t) []

/-! ### Host writes (R32 to R38) -/

/-- The written byte in the image, and its offset in the known and changed sets (R35). -/
def putByte (o : Offset) (b : Byte) (e : Entry) : Entry :=
  { e with image := e.image.set o (some b), changed := addOffset e.changed o }

/-- The quiet deadline set from the quiet time of the write's policy record (R22). -/
def restartQuiet (p : PolicyRecord) (e : Entry) : Entry := { e with quiet := some p.quiet }

/-- The age deadline and the age start started (R23). -/
def startAge (p : PolicyRecord) (now : Stamp) (e : Entry) : Entry :=
  { e with age := some p.age, ageStart := some now }

/-- The entry of a page just admitted (R33). -/
def admittedEntry (page : Nat) (o : Offset) (b : Byte) (p : PolicyRecord) (now : Stamp) : Entry :=
  startAge p now (restartQuiet p (putByte o b { Entry.freed with state := .settling, page := some page }))

/-- A write into a CLEAN entry of its page: the known set stays full, the changed set becomes the one offset (R34). -/
def redirtiedEntry (o : Offset) (b : Byte) (p : PolicyRecord) (now : Stamp) (e : Entry) : Entry :=
  startAge p now (restartQuiet p (putByte o b { e with state := .settling, changed := noOffsets }))

/-- A write into a COMMITTING entry (R36). -/
def mergeCommitting (o : Offset) (b : Byte) (p : PolicyRecord) (now : Stamp) (e : Entry) : Entry :=
  let e1 := restartQuiet p (putByte o b e)
  let e2 := if offsetsEmpty e.changed then startAge p now e1 else e1
  if p.policy = .through then { e2 with promoteAtEnd := true } else e2

/-- A SETTLING entry that a THROUGH write has reached is promoted at once (R38). -/
def promoteIfThrough (p : PolicyRecord) (i : Index) (t : SettleTable) : SettleTable :=
  if p.policy = .through ∧ t.entries[i].state = .settling then promote i t else t

/-- The entry an admission takes: the lowest FREE one, else the head of the clean list, which leaves it (R31). -/
def takeSlot (t : SettleTable) : Option (Index × SettleTable) :=
  match firstIndex t (inState .free) with
  | some i => some (i, t)
  | none =>
    match t.cleanList with
    | i :: rest => some (i, { t with cleanList := rest })
    | [] => none

/-- The settle table takes a host write (R32). `none`: the write fails the admission test and waits, and the table
changes nothing for it. Otherwise the table after it and the counter that goes with HOST_WRITES_ACCEPTED. -/
def tableWrite (budget : Nat) (now : Stamp) (page : Nat) (o : Offset) (b : Byte) (p : PolicyRecord)
    (t : SettleTable) : Option (SettleTable × Counter) :=
  match entryFor t page with
  | none =>
    if dirtyCount t < budget then
      (takeSlot t).map fun slot =>
        (promoteIfThrough p slot.1 (updateEntry slot.2 slot.1 fun _ => admittedEntry page o b p now), .admissions)
    else none
  | some i =>
    match t.entries[i].state with
    | .clean =>
      if dirtyCount t < budget then
        let t1 := { t with cleanList := t.cleanList.filter (· != i) }
        some (promoteIfThrough p i (updateEntry t1 i (redirtiedEntry o b p now)), .admissions)
      else none
    | .settling =>
      some (promoteIfThrough p i (updateEntry t i fun e => restartQuiet p (putByte o b e)), .writesMerged)
    | .due => some (updateEntry t i fun e => restartQuiet p (putByte o b e), .writesMerged)
    | .committing => some (updateEntry t i (mergeCommitting o b p now), .writesMerged)
    | .pinned => some (updateEntry t i (putByte o b), .writesMerged)
    | .free => none

/-! ### Host reads (R45) -/

/-- A table hit: the entry that knows the offset, and the byte. -/
def tableHit (t : SettleTable) (page : Nat) (o : Offset) : Option (Index × Byte) :=
  match entryFor t page with
  | none => none
  | some i => (t.entries[i].image[o]).map fun b => (i, b)

/-- A hit on a CLEAN entry moves it to the tail of the clean list; any other changes nothing (R30, R45). -/
def touchClean (i : Index) (t : SettleTable) : SettleTable :=
  if t.entries[i].state = .clean then { t with cleanList := t.cleanList.filter (· != i) ++ [i] } else t

/-! ### Expiry (R24) -/

/-- What an expiry does to an entry by its state: promoted from SETTLING, noted in COMMITTING, nothing else. -/
def expiryActs (i : Index) (t : SettleTable) : SettleTable :=
  match t.entries[i].state with
  | .settling => promote i t
  | .committing => updateEntry t i fun e => { e with deadlinePassed := true }
  | _ => t

/-- One 1 ms tick on an entry's deadlines (R22, R23). -/
def tickEntry (e : Entry) : Entry := { e with quiet := e.quiet.map (· - 1), age := e.age.map (· - 1) }

/-! ### Snapshot and the ends of a commit (R29, R43, R44) -/

/-- The entry as the snapshot leaves it (R29). -/
def snapshotEntry (e : Entry) : Entry :=
  { e with state := .committing, changed := noOffsets, quiet := none, age := none, ageStart := none,
           deadlinePassed := false, promoteAtEnd := false }

/-- The entry as the fill leaves it: each offset it does not know takes the byte of M (R88). -/
def filledEntry (m : Page) (e : Entry) : Entry := { e with image := completeWith e.image m }

/-- The entry as it becomes CLEAN (R43, R22, R23). -/
def cleanedEntry (e : Entry) : Entry :=
  { e with state := .clean, quiet := none, age := none, ageStart := none, syncMark := false, promoteAtEnd := false,
           deadlinePassed := false }

/-- The flags cleared at every end in success (R43). -/
def clearCommitFlags (e : Entry) : Entry := { e with promoteAtEnd := false, deadlinePassed := false }

/-- A commit that ended in success hands its entry back, and the table routes it (R43); in HOLDUP an entry that would
become SETTLING is promoted (R170). -/
def routeSuccess (mode : Mode) (i : Index) (t : SettleTable) : SettleTable :=
  let e := t.entries[i]
  if offsetsEmpty e.changed then
    { updateEntry t i cleanedEntry with cleanList := t.cleanList ++ [i] }
  else if e.promoteAtEnd || e.syncMark || e.deadlinePassed || mode == .holdup then
    promote i (updateEntry t i clearCommitFlags)
  else updateEntry t i fun e => { clearCommitFlags e with state := .settling }

/-- The entry as it is pinned: its changed set joined with C (R44). -/
def pinnedEntry (c : OffsetSet) (e : Entry) : Entry :=
  { e with state := .pinned, changed := unionOffsets e.changed c, quiet := none, age := none, ageStart := none,
           syncMark := false, promoteAtEnd := false, deadlinePassed := false }

/-! ### SYNC (R28, R193) -/

/-- Marked by a SYNC: every entry with a non-empty changed set but a PINNED one, and the COMMITTING entry. -/
def syncMarks (e : Entry) : Bool :=
  e.state == .committing || (e.state != .pinned && !offsetsEmpty e.changed)

/-- Whether some entry carries a sync mark. -/
def anySyncMark (t : SettleTable) : Bool := someEntry t (·.syncMark)

end Sys2Proof.Machine
end

