-- ==== Sys2Proof/Machine/CommitEngine.lean ====
section
/-!
DEFINITION. The commit engine (05) and the trial sequence (07): start claim, snapshot, fill, compare, program, verify,
the remap path, and the ends of a commit.
-/
namespace Sys2Proof.Machine

/-- The start claim, placed when the engine is IDLE, the due queue is not empty and the mode is RUN or HOLDUP (R85). -/
def State.placeStart (s : State) : State :=
  if s.ce.stage = .idle ∧ s.table.dueQueue ≠ [] ∧ (s.mode = .run ∨ s.mode = .holdup) then
    s.setCe { s.ce with stage := .starting }
  else s

/-- The commit record that the snapshot of an entry fills (R86). -/
def snapshotRecord (i : Index) (e : Entry) (r : RemapUnit) (retryLimit : Nat) : CommitRecord :=
  let page := e.page.getD 0
  { entry := i, page := page, buffer := e.image, snapKnown := knownSet e.image, changeSet := e.changed
    target := resolveTarget r page, targetPage := resolvePage r page, trial := false, attempts := 0
    attemptLimit := 1 + retryLimit }

/-- The grant of the start claim: the snapshot and the start of the fill, as one step (R29, R86). -/
def State.takeSnapshot (s : State) : State :=
  match s.table.dueQueue with
  | [] => s
  | i :: rest =>
    let r := snapshotRecord i s.table.entries[i] s.remap s.cfg.retryLimit
    ((s.setTable { updateEntry s.table i snapshotEntry with dueQueue := rest }).setCe
      { stage := .filling, record := some r }).setPort (.reading (.fill r.targetPage))

/-- The engine back in IDLE with an empty record; it claims again at once when the queue is not empty (R102, R104). -/
def State.commitOver (s : State) : State := (s.setCe { stage := .idle, record := none }).placeStart

/-- A commit ends in success: COMMITS, the entry handed back and routed (R43, R102). -/
def State.commitSucceeds (r : CommitRecord) (s : State) : State :=
  ((s.count .commits).setTable (routeSuccess s.mode r.entry s.table)).commitOver

/-- A commit ends without success: its entry is PINNED (R44, R104). -/
def State.commitPinned (r : CommitRecord) (s : State) : State :=
  (s.setTable (updateEntry s.table r.entry (pinnedEntry r.changeSet))).commitOver

/-- The engine waits with a program claim for the target in the record (R93). -/
def State.awaitProgram (r : CommitRecord) (s : State) : State :=
  s.setCe { stage := .awaitProgram, record := some r }

/-- A commit has nothing to program: D and the residue are both empty (R91). -/
def nothingToProgram (r : CommitRecord) (p m : Page) : Bool :=
  offsetsEmpty (differenceSet r.changeSet p m) && offsetsEmpty (residue r.changeSet p m)

/-- The fill completes with M: the buffer and the entry are completed and P is compared with M (R88, R91, R92). -/
def State.fillDone (r : CommitRecord) (m : Page) (s : State) : State :=
  let r1 := { r with buffer := completeWith r.buffer m }
  let s1 := s.setTable (updateEntry s.table r.entry (filledEntry m))
  if nothingToProgram r1 (definedBytes r1.buffer) m then (s1.count .commitsElided).commitSucceeds r1
  else s1.awaitProgram r1

/-- The grant of the program claim: a PAGE PROGRAM of P at the target, one more attempt, PROGRAMS (R93). -/
def State.grantProgram (s : State) : State :=
  match s.ce.record with
  | none => s
  | some r =>
    (((s.startProgram r.targetPage (definedBytes r.buffer)).setPort (.programming .commitEngine r.targetPage 25)).setCe
      { stage := .programming, record := some { r with attempts := r.attempts + 1 } }).count .programs

/-- The grant of the verify claim: a PAGE READ of the target (R94). -/
def State.grantVerify (s : State) : State :=
  match s.ce.record with
  | none => s
  | some r => (s.setCe { s.ce with stage := .verifying }).setPort (.reading (.verify r.targetPage))

/-- A verify match at a trial spare applies the REMAP change, with its flag, its count, the spares-low test and the
report to the map store (R95, R131). -/
def State.remapTo (page n : Nat) (s : State) : State :=
  ((((s.setRemap (remapChange page n s.remap)).raise .remap).count .remaps).sparesLowTest).mapChange

/-- The RETIRE change of an exhausted trial spare, with the spares-low test and the report (R99, R130). -/
def State.retireSpare (n : Nat) (s : State) : State :=
  ((s.setRemap (retireChange n s.remap)).sparesLowTest).mapChange

/-- A verify match (R95). -/
def State.verifyMatches (r : CommitRecord) (s : State) : State :=
  match r.trial, r.target with
  | true, .spare n => (s.remapTo r.page n).commitSucceeds r
  | _, _ => s.commitSucceeds r

/-- The record as it goes on to a trial spare (R98). -/
def toTrial (n : Nat) (r : CommitRecord) : CommitRecord :=
  { r with target := .spare n, targetPage := sparePage n, trial := true, attempts := 0 }

/-- The target given up when its attempts are exhausted: a trial spare is retired, the snapshot target is not (R98,
R99). -/
def State.giveUpTarget (r : CommitRecord) (s : State) : State :=
  match r.trial, r.target with
  | true, .spare n => s.retireSpare n
  | _, _ => s

/-- A verify mismatch: VERIFY_FAILS, a VERIFY error, then a retry, a trial spare, or pinning with SPOUT (R96, R98 to
R100, R134). The VERIFY and the SPOUT error of one step are offered in either order (R199). -/
def State.verifyMismatch (r : CommitRecord) (s : State) : State :=
  let s1 := s.count .verifyFails
  if r.attempts < r.attemptLimit then (s1.offer .verify r.page).awaitProgram r
  else
    let s2 := s1.giveUpTarget r
    match allocate s2.remap with
    | some n => (s2.offer .verify r.page).awaitProgram (toTrial n r)
    | none => ((s2.raise .spout).offerUnordered [(.verify, r.page), (.spout, r.page)]).commitPinned r

/-- The verify read of the target is compared with P at all 64 offsets (R94). -/
def State.verifyDone (r : CommitRecord) (m : Page) (s : State) : State :=
  if m = definedBytes r.buffer then s.verifyMatches r else s.verifyMismatch r

end Sys2Proof.Machine
end

