-- ==== Sys2Proof/Machine/HostPort.lean ====
section
/-!
DEFINITION. The host port (04): arrival, the checks on writes and reads, holding and ending an access, and the pins.
-/
namespace Sys2Proof.Machine

/-- The default stall limit of an access held in BOOT, in 100 µs ticks (R65). -/
def bootStallLimit : Nat := 50

/-- In range: L < Lcap (R2). -/
def State.inRange (s : State) (a : HostAddr) : Bool := logicalPage a < s.remap.capacity

/-- A cause of the table of R81: its flag, and an error of its kind with the byte address. -/
def State.report (f : Flag) (k : ErrorKind) (a : HostAddr) (s : State) : State := (s.raise f).offer k a.toNat

/-- The arrival condition: one strobe alone is asserted with HCS# (R62). -/
def arrivalHolds (k : Option Strobe) : Bool := k == some .read || k == some .write

/-- HCS# and HRD# are both asserted (R63). -/
def readLinesAsserted (k : Option Strobe) : Bool := k == some .read || k == some .both

/-- An access ends: the record is emptied, and the port is ENDED, or IDLE when the arrival condition is false (R62,
R64). An ended read leaves its byte for HD while HCS# and HRD# are asserted (R63). -/
def State.endAccess (read : Option Byte) (s : State) : State :=
  s.setHost
    { s.host with
      bus := if arrivalHolds s.host.strobe then .ended else .idle
      pend := none
      readByte := if readLinesAsserted s.host.strobe then read else none }

/-- A host read ends with a byte; HOST_READS counts every end (R81). -/
def State.endRead (b : Byte) (s : State) : State := (s.count .hostReads).endAccess (some b)

/-- A write is dropped with the flag and the error of its cause (R70). -/
def State.dropWrite (f : Flag) (k : ErrorKind) (a : HostAddr) (s : State) : State := (s.report f k a).endAccess none

/-- An access is held: the pending access record is filled (R65). -/
def State.holdAccess (x : Access) (a : HostAddr) (limit : Nat) (w : Wait) (s : State) : State :=
  s.setHost
    { s.host with
      bus := .pending
      pend := some { access := x, addr := a, stallLimit := limit, stallLeft := limit, wait := w } }

/-- The region unit resolves a write and the settle table takes it (R52, R55, R32). `none`: it waits for admission. -/
def State.takeResolvedWrite (a : HostAddr) (d : Byte) (s : State) : Option State :=
  let p := resolvePolicy s.regions (logicalPage a)
  if p.policy = .locked then some (s.dropWrite .locked .locked a)
  else
    (tableWrite s.cfg.budget s.time.stamp (logicalPage a) (pageOffset a) d p s.table).map fun r =>
      ((((s.setTable r.1).count .hostWritesAccepted).count r.2).endAccess none).placeStart

/-- The checks of R67 in order. `none`: the write is to be held with wait ADMISSION. -/
def State.takeWrite (a : HostAddr) (d : Byte) (s : State) : Option State :=
  if s.inRange a then s.takeResolvedWrite a d else some (s.dropWrite .range .range a)

/-- The checks of R71 in order. `none`: a claim for a BYTE READ is to be placed. -/
def State.takeRead (a : HostAddr) (s : State) : Option State :=
  if s.inRange a then
    match tableHit s.table (logicalPage a) (pageOffset a) with
    | some (i, b) => some (((s.setTable (touchClean i s.table)).count .readsFromTable).endRead b)
    | none => if s.mode = .fault then some ((s.offer .memtimeout a.toNat).endRead s.cfg.filler) else none
  else some ((s.report .range .range a).endRead s.cfg.filler)

/-- A write that has arrived, by the mode (R67, R68, R77). -/
def State.arriveWrite (a : HostAddr) (d : Byte) (s : State) : State :=
  match s.mode with
  | .boot => s.holdAccess (.write d) a bootStallLimit .boot
  | .holdup => s.dropWrite .hdrop .hdrop a
  | _ => (s.takeWrite a d).getD (s.holdAccess (.write d) a s.cfg.writeStall .admission)

/-- A read that has arrived, by the mode (R71, R77). -/
def State.arriveRead (a : HostAddr) (s : State) : State :=
  match s.mode with
  | .boot => s.holdAccess .read a bootStallLimit .boot
  | _ => (s.takeRead a).getD (s.holdAccess .read a s.cfg.readStall .claim)

/-- The wait of the pending access changed; its stall interval runs on (R66). -/
def State.setWait (w : Wait) (s : State) : State :=
  s.setHost { s.host with pend := s.host.pend.map fun p => { p with wait := w } }

/-- The access held in BOOT is taken when the mode leaves BOOT for RUN or HOLDUP (R78). -/
def State.takeHeld (s : State) : State :=
  match s.host.pend with
  | none => s
  | some p =>
    match p.access with
    | .write d =>
      if s.mode = .holdup then s.dropWrite .hdrop .hdrop p.addr
      else (s.takeWrite p.addr d).getD (s.setWait .admission)
    | .read => (s.takeRead p.addr).getD (s.setWait .claim)

/-- The stall interval of the pending access expires (R66). -/
def State.stallExpires (s : State) : State :=
  match s.host.pend with
  | none => s
  | some p =>
    match p.access with
    | .write _ => s.dropWrite .wrstall .wrstall p.addr
    | .read => (s.report .rdstall .rdstall p.addr).endRead s.cfg.filler

/-- The write that waits for admission, if one does (R40). -/
def waitingWrite (h : HostPort) : Option (HostAddr × Byte) :=
  match h.pend with
  | some { access := .write d, addr := a, wait := .admission, .. } => some (a, d)
  | _ => none

/-- The read whose claim waits for a grant, if one does (R71). -/
def waitingRead (h : HostPort) : Option HostAddr :=
  match h.pend with
  | some { access := .read, addr := a, wait := .claim, .. } => some a
  | _ => none

/-- A waiting write is taken again as a new one; it may go on waiting (R40, R69). -/
def State.retakeWrite (s : State) : State :=
  match waitingWrite s.host with
  | none => s
  | some (a, d) => (s.takeResolvedWrite a d).getD s

/-- Pressure: the oldest SETTLING entry is promoted (R41). -/
def State.applyPressure (s : State) : State :=
  match settlingByAge s.time.stamp s.table with
  | [] => s
  | i :: _ => (s.setTable (promote i s.table)).placeStart

/-- The grant of a host read's claim: resolution, and a BYTE READ (R72). -/
def State.grantByteRead (s : State) : State :=
  match waitingRead s.host with
  | none => s
  | some a =>
    (s.setWait .granted).setPort (.reading (.hostByte (resolvePage s.remap (logicalPage a)) (pageOffset a)))

/-- A BYTE READ completes: its byte ends the read that was granted, or is discarded (R72, R73). -/
def State.byteReadDone (b : Byte) (s : State) : State :=
  match s.host.pend with
  | some { wait := .granted, .. } => s.endRead b
  | _ => s

/-! ### The pins (R63, R79) -/

/-- HWAIT# is asserted while the port is PENDING (R63). -/
def hwaitAsserted (s : State) : Bool := s.host.bus == .pending

/-- What the part drives on HD (R63). -/
inductive HostData where
  | notDriven
  | undefinedValue
  | driven (b : Byte)
  deriving DecidableEq, Repr

/-- HD is driven for a read while HCS# and HRD# are both asserted, whatever HWR# shows: undefined before HWAIT# is
released, then the read's byte; for a write, and in reset, it is not driven (R63, R79). -/
def hostData (s : State) : HostData :=
  if s.inReset || !readLinesAsserted s.host.strobe then .notDriven
  else
    match s.host.bus, s.host.pend, s.host.readByte with
    | .pending, some { access := .read, .. }, _ => .undefinedValue
    | .pending, _, _ => .notDriven
    | _, _, some b => .driven b
    | _, _, none => .notDriven

end Sys2Proof.Machine
end

