-- ==== Sys2Proof/Machine/HoldUp.lean ====
section
/-!
DEFINITION. The hold-up controller (09) and entry into FAULT (06, section 6.5), which every block meets.
-/
namespace Sys2Proof.Machine

/-- SETTLING, DUE or COMMITTING (R172). -/
def isUnflushed (e : Entry) : Bool :=
  match e.state with
  | .settling => true
  | .due => true
  | .committing => true
  | _ => false

/-- Flush done (R172). A job that a trigger of this step starts counts as running (log 1). -/
def flushDoneHolds (s : State) : Bool :=
  !someEntry s.table isUnflushed && s.store.job.isNone && !s.store.persistAgain && !s.store.startDue

/-- DONE falls back to FLUSHING when flush done no longer holds (R172). -/
def State.refreshFlush (s : State) : State :=
  if s.mode = .holdup ∧ s.flush = .done ∧ flushDoneHolds s = false then s.setFlush .flushing else s

/-- HOLDOK is asserted exactly while the flush state is DONE (R167). -/
def holdokAsserted (s : State) : Bool := s.flush == .done

/-- Flush done comes to hold: DONE, and the flag HOLDDN (R172). -/
def State.flushIsDone (s : State) : State := (s.setFlush .done).raise .holddn

/-- Entry into HOLDUP from RUN, as one step (R168): the mode, the promotion in age order, the held write dropped, the
flush state. Whether flush done already holds is taken by FLUSH_DONE in the same step (log 1). -/
def State.enterHoldup (s : State) : State :=
  let s1 := (s.setMode .holdup).setTable (promoteAll (settlingByAge s.time.stamp s.table) s.table)
  let s2 :=
    match waitingWrite s1.host with
    | some (a, _) => s1.dropWrite .hdrop .hdrop a
    | none => s1
  (s2.setFlush .flushing).placeStart

/-- Return to RUN (R173). -/
def State.leaveHoldup (s : State) : State := (s.setMode .run).setFlush .none

/-! ### Entry into FAULT (R122, R123) -/

/-- The commit engine as FAULT finds it: a start claim is withdrawn, a commit in progress ends pinned (R85, R105). -/
def State.commitInFault (s : State) : State :=
  match s.ce.record with
  | none => s.setCe { stage := .idle, record := none }
  | some r =>
    (s.setTable (updateEntry s.table r.entry (pinnedEntry r.changeSet))).setCe { stage := .idle, record := none }

/-- FAULT ends a SYNC in flight by clearing every sync mark still set (R194). -/
def State.clearSyncMarks (s : State) : State :=
  s.setTable (mapEntries (fun e => { e with syncMark := false }) s.table)

/-- The host access that FAULT ends: a read held for a grant ends with the filler byte and MEMTIMEOUT (R74), an access
held in BOOT is out of range (R78); its RANGE error is offered with those of the entry. -/
def State.hostInFault (s : State) : State :=
  match s.host.pend with
  | some { access := .read, addr := a, wait := .claim, .. } => (s.offer .memtimeout a.toNat).endRead s.cfg.filler
  | some { access := .read, wait := .boot, .. } => (s.raise .range).endRead s.cfg.filler
  | some { access := .write _, wait := .boot, .. } => (s.raise .range).endAccess none
  | _ => s

/-- The errors of one entry into FAULT whose order R199 leaves open: its cause, the failed job's MSTALE (R154), the
RANGE of an access held in BOOT (R78). -/
def faultErrors (cause : ErrorKind × Nat) (s : State) : List (ErrorKind × Nat) :=
  [cause]
    ++ (match s.store.job with
        | some j => [(.mstale, jobPhysical j * 64)]
        | none => [])
    ++ (match s.host.pend with
        | some { addr := a, wait := .boot, .. } => [(.range, a.toNat)]
        | _ => [])

/-- The flags of an entry into FAULT: MFAULT, and MSTALE when a job was running (R122, R154). -/
def State.faultFlags (s : State) : State :=
  if s.store.job.isSome then (s.raise .mfault).raise .mstale else s.raise .mfault

/-- The mode becomes FAULT, and every claimant is told (R122, R123, R176). -/
def State.enterFault (cause : ErrorKind × Nat) (s : State) : State :=
  let s1 := (s.offerUnordered (faultErrors cause s)).faultFlags
  let s2 := ((s1.setStore (storeInFault s1.store)).commitInFault).clearSyncMarks
  (((s2.hostInFault).setMode .fault).setPort .faulted).setFlush .none

end Sys2Proof.Machine
end

