-- ==== Sys2Proof/Machine/BootLoader.lean ====
section
/-!
DEFINITION. The boot loader (08, section 8.5): LOAD, SELECT, BUILD, FRESH and the end of boot.
-/
namespace Sys2Proof.Machine

/-- The pages read so far of a copy. -/
def loadedPages (b : BootLoader) : Copy → List Page
  | .a => b.pagesA
  | .b => b.pagesB

/-- A page read joins those of its copy (R159). -/
def addLoaded (c : Copy) (p : Page) (b : BootLoader) : BootLoader :=
  match c with
  | .a => { b with pagesA := b.pagesA ++ [p] }
  | .b => { b with pagesB := b.pagesB ++ [p] }

/-- The boot loader claims page k of a copy; it is alone in BOOT, so the claim is granted at once (R121, R159). -/
def State.loadPage (c : Copy) (k : Nat) (s : State) : State :=
  (s.setBoot { s.boot with stage := .load c k }).setPort (.reading (.load (copyBase c + k)))

/-- BUILD from what a selected copy stores (R14, R163). -/
def State.build (c : Copy) (m : StoredMap) (s : State) : State :=
  (((s.setRemap
        { built := true, spares := m.spares, capacity := logicalCapacity s.straps.msize m.spares,
          records := m.records, lowReport := .clear }).setRegions m.regions).setCfg m.cfg).setStore
    { MapStore.reset with current := some c, sequence := m.sequence }

/-- BUILD and FRESH when no copy is selected (R14, R164): an empty map with S from the strap, the defaults, PENDING, the
FRESH flag, and a persist job to start in this step. -/
def State.buildFresh (s : State) : State :=
  ((s.setRemap
        { built := true, spares := spareCount s.straps.spare
          capacity := logicalCapacity s.straps.msize (spareCount s.straps.spare), records := []
          lowReport := .clear }).setStore
    { MapStore.reset with status := .pending, startDue := true }).raise .fresh

/-- LOSS is set when loss-pending is, which is then cleared (R202). -/
def State.raiseLoss (s : State) : State :=
  if s.events.lossPending then (s.raise .loss).setEvents { (s.raise .loss).events with lossPending := false } else s

/-- The boot loader is done: its pages are held no longer (R159). -/
def State.bootOver (s : State) : State := s.setBoot { stage := .ended, pagesA := [], pagesB := [] }

/-- The end of boot (R165, R175): the port is IDLE, LOSS, the mode by the level of PFW#, the flush state, and the held
access is taken. -/
def State.endBoot (s : State) : State :=
  let s1 := ((s.bootOver).setPort .idle).raiseLoss
  let s2 := if s1.pfw then (s1.setMode .holdup).setFlush .flushing else s1.setMode .run
  s2.takeHeld

/-- SELECT, BUILD, FRESH and the end of boot, in the step of the last LOAD B completion (R158, R161, R162). -/
def State.selectAndBuild (s : State) : State :=
  let a := s.boot.pagesA
  let b := s.boot.pagesB
  if sizeMismatch s.straps.msize a then ((s.bootOver).raiseLoss).enterFault (.size, 0)
  else if sizeMismatch s.straps.msize b then ((s.bootOver).raiseLoss).enterFault (.size, 1088)
  else
    match selectCopy s.straps.msize a b with
    | some .a => (s.build .a (loadCopy a)).endBoot
    | some .b => (s.build .b (loadCopy b)).endBoot
    | none => s.buildFresh.endBoot

/-- A LOAD page has been read: the next page of the copy, the other copy, or SELECT (R159). -/
def State.pageLoaded (c : Copy) (k : Nat) (p : Page) (s : State) : State :=
  let s1 := s.setBoot (addLoaded c p s.boot)
  if k < pagesToLoad (headerOf (loadedPages s1.boot c)) then s1.loadPage c (k + 1)
  else
    match c with
    | .a => s1.loadPage .b 0
    | .b => s1.selectAndBuild

end Sys2Proof.Machine
end

