-- ==== Sys2Proof/Machine/FollowOn.lean ====
section
/-!
DEFINITION. The rows that a rule puts in the same step as the event that brings them about (a grant at an idle port,
the start of a job, SYNC and SAVE completions, pressure, a waiting write taken again, flush done): when each is due,
what it does, and that no other command is taken before it (log 1). Then the expiries that a tick may not pass (log 3).
-/
namespace Sys2Proof.Machine

/-- The follow-on rows. -/
inductive FollowOn where
  | clockStageEnd | syncComplete | saveComplete | persistJobStart | waitingWriteTakenAgain | pressure | byteReadGrant
  | mapStoreStepGrant | snapshot | programClaimGrant | verifyClaimGrant | flushDone
  deriving DecidableEq, Repr

/-- The 16th 1 ms tick after release has come: it ends the CLOCK stage (R158). -/
def clockStageEndDue (s : State) : Bool := s.boot.stage == .clock 0

/-- The SYNC in flight has no mark left (R194). -/
def syncCompleteDue (s : State) : Bool := s.link.longCommand == .sync && !anySyncMark s.table

/-- The end of a SAVE has been reported (R150). -/
def saveCompleteDue (s : State) : Bool := s.store.saveReport.isSome

/-- A trigger has started a job (R148, R155, R165). -/
def persistJobStartDue (s : State) : Bool :=
  s.store.startDue && s.store.job.isNone && (s.mode == .run || s.mode == .holdup)

/-- The modes in which the settle table takes host writes (R32, R68). -/
def takesWrites (m : Mode) : Bool := m == .run || m == .fault

/-- A write waits and the dirty count is below B (R40). -/
def waitingWriteDue (s : State) : Bool :=
  takesWrites s.mode && (waitingWrite s.host).isSome && dirtyCount s.table < s.cfg.budget

/-- A write waits, the due queue is empty, nothing is COMMITTING and something is SETTLING (R41). -/
def pressureDue (s : State) : Bool :=
  takesWrites s.mode && (waitingWrite s.host).isSome && s.table.dueQueue.isEmpty && !someEntry s.table (inState .committing)
    && someEntry s.table (inState .settling)

/-- The claim that the arbiter grants when the port is IDLE: host port, then map store, then commit engine (R120). -/
def grantDue (s : State) : Option FollowOn :=
  if s.port ≠ .idle then none
  else if (waitingRead s.host).isSome then some .byteReadGrant
  else if mapStoreClaims s then some .mapStoreStepGrant
  else
    match s.ce.stage with
    | .starting => if s.table.dueQueue.isEmpty then none else some .snapshot
    | .awaitProgram => if s.ce.record.isSome then some .programClaimGrant else none
    | .awaitVerify => if s.ce.record.isSome then some .verifyClaimGrant else none
    | _ => none

/-- In HOLDUP flush done comes to hold (R172). -/
def flushDoneDue (s : State) : Bool := s.mode == .holdup && s.flush == .flushing && flushDoneHolds s

/-- The follow-on row that comes next in the present step, if one is due. -/
def State.due (s : State) : Option FollowOn :=
  if s.inReset then none
  else if clockStageEndDue s then some .clockStageEnd
  else if syncCompleteDue s then some .syncComplete
  else if saveCompleteDue s then some .saveComplete
  else if persistJobStartDue s then some .persistJobStart
  else if waitingWriteDue s then some .waitingWriteTakenAgain
  else if pressureDue s then some .pressure
  else
    match grantDue s with
    | some f => some f
    | none => if flushDoneDue s then some .flushDone else none

/-- The CLOCK stage ends and READY starts (R124, R158): with MRDY high it ends at once and LOAD A begins, with MRDY low
its interval of 25 ticks runs. -/
def State.startReady (s : State) : State :=
  if mrdyIsHigh s.pnv then s.loadPage .a 0 else s.setBoot { s.boot with stage := .ready 25 }

/-- A SYNC completes: the outcome, the field, SYNCDN (R194). In FAULT the outcome is PINNED_REMAIN whatever the table
holds. -/
def State.finishSync (s : State) : State :=
  let outcome : SyncOutcome :=
    if s.mode = .fault ∨ 0 < pinnedCount s.table then .pinnedRemain else .complete
  (s.setLink { s.link with longCommand := .none, lastSync := outcome }).raise .syncdn

/-- A SAVE completes: the field, and SAVEDN on success (R150, R195). -/
def State.finishSave (s : State) : State :=
  let s1 := (s.setLink { s.link with longCommand := .none }).setStore { s.store with saveReport := none }
  if s.store.saveReport = some true then s1.raise .savedn else s1

/-- What a follow-on row does. -/
def State.follow (f : FollowOn) (s : State) : State :=
  match f with
  | .clockStageEnd => s.startReady
  | .syncComplete => s.finishSync
  | .saveComplete => s.finishSave
  | .persistJobStart => s.startJob
  | .waitingWriteTakenAgain => s.retakeWrite
  | .pressure => s.applyPressure
  | .byteReadGrant => s.grantByteRead
  | .mapStoreStepGrant => s.grantMapStep
  | .snapshot => s.takeSnapshot
  | .programClaimGrant => s.grantProgram
  | .verifyClaimGrant => s.grantVerify
  | .flushDone => s.flushIsDone

/-- The follow-on rows that are due, taken one after another, up to the one named (and not that one). -/
def State.settleFor (stop : Option FollowOn) : Nat → State → State
  | 0, s => s
  | n + 1, s =>
    match s.due with
    | none => s
    | some f => if stop = some f then s else State.settleFor stop n (s.follow f)

/-- The state once all that the last event brings about in its step has come about. -/
def State.settled (s : State) : State := State.settleFor none Config.followOnBound s

/-- As `settled`, but stopping where the named row is the next. -/
def State.settledTo (f : FollowOn) (s : State) : State := State.settleFor (some f) Config.followOnBound s

/-! ### How a row is taken -/

/-- A row from outside: the step before it is completed first. In reset nothing but the pins is followed, which the
rows that follow a pin do for themselves (log 20). -/
def State.event (effect : State → State) (s : State) : Host.Outcome State Fault Refusal :=
  if s.inReset then .next s else .next (effect s.settled)

/-- A follow-on row: the rows due before it are taken, then it, if it is due (log 2). -/
def State.followOn (f : FollowOn) (s : State) : Host.Outcome State Fault Refusal :=
  let s1 := s.settledTo f
  if s1.due = some f then .next (s1.follow f) else .next s1

/-! ### Deadlines that have run out (R21, R24) -/

/-- The rows that a tick makes due; other events may be taken before them, the next tick may not. -/
inductive Expiry where
  | quiet (i : Index)
  | age (i : Index)
  | stall
  | programLimit
  | ready
  deriving DecidableEq, Repr

/-- The first entry whose quiet or age deadline has run out and is not yet taken. -/
def entryExpiry (t : SettleTable) : Option Expiry :=
  match firstIndex t fun e => e.quiet == some 0 || e.age == some 0 with
  | none => none
  | some i => if t.entries[i].quiet = some 0 then some (.quiet i) else some (.age i)

/-- The stall interval of the pending access has run out. -/
def stallExpired (h : HostPort) : Bool :=
  match h.pend with
  | some p => p.stallLeft == 0
  | none => false

/-- The program limit has run out (R117). -/
def programLimitExpired (p : PortState) : Bool :=
  match p with
  | .programming _ _ limit => limit == 0
  | _ => false

/-- READY's interval has run out with MRDY low (R124). -/
def readyExpired (s : State) : Bool := s.boot.stage == .ready 0 && !mrdyIsHigh s.pnv

/-- An expiry that has not been taken yet. -/
def State.expiry (s : State) : Option Expiry :=
  if s.inReset then none
  else
    match entryExpiry s.table with
    | some e => some e
    | none =>
      if stallExpired s.host then some .stall
      else if programLimitExpired s.port then some .programLimit
      else if readyExpired s then some .ready
      else none

/-- A quiet deadline has expired: it is absent afterwards (R22, R24). -/
def State.quietExpires (i : Index) (s : State) : State :=
  (s.setTable (expiryActs i (updateEntry s.table i fun e => { e with quiet := none }))).placeStart

/-- An age deadline has expired: it and the age start are absent afterwards (R23, R24). -/
def State.ageExpires (i : Index) (s : State) : State :=
  (s.setTable (expiryActs i (updateEntry s.table i fun e => { e with age := none, ageStart := none }))).placeStart

/-- The expiry of the program limit is a memory timeout (R118). -/
def State.programTimesOut (s : State) : State :=
  match s.port with
  | .programming _ page _ => s.enterFault (.memtimeout, page * 64)
  | _ => s

/-- READY times out: boot ends in FAULT with MEMTIMEOUT at address 0; LOSS is not raised (R124, R165). -/
def State.readyTimesOut (s : State) : State := (s.bootOver).enterFault (.memtimeout, 0)

/-- What an expiry does. -/
def State.expire (e : Expiry) (s : State) : State :=
  match e with
  | .quiet i => s.quietExpires i
  | .age i => s.ageExpires i
  | .stall => s.stallExpires
  | .programLimit => s.programTimesOut
  | .ready => s.readyTimesOut

/-- The follow-on rows and the expiries that are waiting, taken before the next tick (log 3). -/
def State.settleForTick : Nat → State → State
  | 0, s => s
  | n + 1, s =>
    match s.due with
    | some f => State.settleForTick n (s.follow f)
    | none =>
      match s.expiry with
      | some e => State.settleForTick n (s.expire e)
      | none => s

/-- The state at which a tick finds the part. -/
def State.readyForTick (s : State) : State := State.settleForTick Config.tickBound s

end Sys2Proof.Machine
end

