-- ==== Sys2Proof/Machine/LinkCommands.lean ====
section
/-!
DEFINITION. The management link (10): the command table, the status, every command's checks, effect and response, and
the frame states.
-/
namespace Sys2Proof.Machine

/-! ### The command table (R180) -/

/-- The command a code names. -/
def commandOfCode (b : Byte) : Option Command :=
  if b = 0x01#8 then some .getId
  else if b = 0x02#8 then some .getStatus
  else if b = 0x10#8 then some .getEvents
  else if b = 0x11#8 then some .clearEvents
  else if b = 0x12#8 then some .setEnables
  else if b = 0x18#8 then some .getCapture
  else if b = 0x19#8 then some .releaseCapture
  else if b = 0x20#8 then some .getCounter
  else if b = 0x21#8 then some .clearCounters
  else if b = 0x30#8 then some .queryPage
  else if b = 0x31#8 then some .readRecord
  else if b = 0x40#8 then some .getConfig
  else if b = 0x41#8 then some .setConfig
  else if b = 0x42#8 then some .setRegion
  else if b = 0x50#8 then some .sync
  else if b = 0x51#8 then some .save
  else if b = 0x52#8 then some .rearm
  else none

/-- Argument bytes of a command. -/
def argumentCount : Command → Nat
  | .clearEvents => 2 | .setEnables => 2 | .getCounter => 1 | .queryPage => 2 | .readRecord => 1 | .getConfig => 1
  | .setConfig => 3 | .setRegion => 10
  | .getId => 0 | .getStatus => 0 | .getEvents => 0 | .getCapture => 0 | .releaseCapture => 0 | .clearCounters => 0
  | .sync => 0 | .save => 0 | .rearm => 0

/-- Response bytes of a command after the status. -/
def responseCount : Command → Nat
  | .getId => 3 | .getStatus => 19 | .getEvents => 6 | .getCapture => 10 | .getCounter => 4 | .queryPage => 7
  | .readRecord => 4 | .getConfig => 9 | .sync => 2 | .rearm => 1
  | .clearEvents => 0 | .setEnables => 0 | .releaseCapture => 0 | .clearCounters => 0 | .setConfig => 0
  | .setRegion => 0 | .save => 0

/-- The long commands (R180). -/
def isLong : Command → Bool
  | .sync => true
  | .save => true
  | _ => false

/-- The commands answered in BOOT (R166). -/
def answeredInBoot : Command → Bool
  | .getId => true
  | .getStatus => true
  | _ => false

/-! ### Status and reply (R182) -/

inductive Status where
  | ok | collide | badParam | refused | unknown | notReady
  deriving DecidableEq, Repr

def statusCode : Status → Byte
  | .ok => 0x80#8 | .collide => 0x81#8 | .badParam => 0x82#8 | .refused => 0x83#8 | .unknown => 0x84#8
  | .notReady => 0x85#8

/-- What a command answers, and the state its effect leaves. -/
structure Reply where
  status : Status
  bytes : List Byte
  after : State
  deriving DecidableEq, Repr

/-- OK with response bytes. -/
def answer (bytes : List Byte) (after : State) : Reply := { status := .ok, bytes, after }

/-- Any other status: nothing changed. -/
def turnDown (status : Status) (s : State) : Reply := { status, bytes := [], after := s }

/-- The response bytes of a frame: the status, then the command's bytes, all 00h when the status is not OK (R180). -/
def responseBytes (c : Command) (r : Reply) : List Byte :=
  statusCode r.status :: (if r.status = .ok then r.bytes else List.replicate (responseCount c) 0#8)

/-- Argument byte n, from 0. -/
def arg (args : List Byte) (n : Nat) : Byte := args.getD n 0#8

/-- The 16-bit argument whose high byte is argument byte n. -/
def arg16 (args : List Byte) (n : Nat) : Nat := num16 (arg args n) (arg args (n + 1))

/-! ### Identification and status (R184) -/

def replyGetId (s : State) : Reply := answer [0x47#8, 0x40#8, 0x01#8] s

def modeCode : Mode → Byte
  | .boot => 0#8 | .run => 1#8 | .holdup => 2#8 | .fault => 3#8

def mapStatusCode : MapStatus → Byte
  | .saved => 0#8 | .pending => 1#8 | .stale => 2#8

def copyCode : Option Copy → Byte
  | none => 0#8 | some .a => 1#8 | some .b => 2#8

def longCommandCode : LongCommand → Byte
  | .none => 0#8 | .sync => 1#8 | .save => 2#8

def syncOutcomeCode : SyncOutcome → Byte
  | .none => 0#8 | .complete => 1#8 | .pinnedRemain => 2#8

def flushCode : FlushState → Byte
  | .none => 0#8 | .flushing => 1#8 | .done => 2#8

/-- An entry index, or FFh for none. -/
def indexCode : Option Index → Byte
  | some i => BitVec.ofNat 8 i.val
  | none => 0xFF#8

/-- The 19 bytes of GET_STATUS in the order of R184. -/
def statusBytes (s : State) : List Byte :=
  [modeCode s.mode, BitVec.ofNat 8 (dirtyCount s.table), BitVec.ofNat 8 (occupiedCount s.table),
   BitVec.ofNat 8 s.table.dueQueue.length, indexCode (committingIndex s.table)]
    ++ bytes16 (freeSpares s.remap) ++ bytes16 s.remap.records.length
    ++ [mapStatusCode s.store.status, copyCode s.store.current] ++ bytes32 s.store.sequence
    ++ [longCommandCode s.link.longCommand, syncOutcomeCode s.link.lastSync, BitVec.ofNat 8 (pinnedCount s.table),
        flushCode s.flush]

def replyGetStatus (s : State) : Reply := answer (statusBytes s) s

/-! ### Events, capture, counters (R185 to R187) -/

/-- A word of fifteen bits as the 16-bit word of the link; bit 15 reads 0 (R197). -/
def linkWord (w : BitVec 15) : BitVec 16 := w.setWidth 16

/-- The low fifteen bits of a 16-bit argument; a 1 in bit 15 is ignored (R185, R197). -/
def argWord (args : List Byte) : BitVec 15 := BitVec.ofNat 15 (arg16 args 0)

def replyGetEvents (s : State) : Reply :=
  answer (wordBytes (linkWord s.events.flags) ++ wordBytes (linkWord s.events.enables) ++ wordBytes s.events.resetLoss) s

def replyClearEvents (args : List Byte) (s : State) : Reply :=
  answer [] (s.setEvents { s.events with flags := s.events.flags &&& ~~~(argWord args) })

def replySetEnables (args : List Byte) (s : State) : Reply :=
  answer [] (s.setEvents { s.events with enables := argWord args })

/-- The ten bytes of GET_CAPTURE (R186). -/
def captureBytes (e : EventUnit) : List Byte :=
  match e.capture with
  | none => List.replicate 9 0#8 ++ [e.overflow]
  | some c => [1#8, errorCode c.kind] ++ bytes24 c.addr ++ bytes32 c.stamp ++ [e.overflow]

def replyGetCapture (s : State) : Reply := answer (captureBytes s.events) s

def replyReleaseCapture (s : State) : Reply := answer [] (s.setEvents (emptyCapture s.events))

/-- GET_COUNTER: indices 1 to 10 name the counters in the order of R187. -/
def replyGetCounter (args : List Byte) (s : State) : Reply :=
  let n := (arg args 0).toNat
  if n = 0 then turnDown .badParam s
  else
    match s.events.counters[n - 1]? with
    | some v => answer (bytes32 v) s
    | none => turnDown .badParam s

def replyClearCounters (s : State) : Reply :=
  answer [] (s.setEvents { s.events with counters := Vector.replicate 10 0#32 })

/-! ### Page and record queries (R188, R189) -/

def entryStateCode : EntryState → Byte
  | .free => 0#8 | .settling => 1#8 | .due => 2#8 | .committing => 3#8 | .clean => 4#8 | .pinned => 5#8

/-- The first four bytes of QUERY_PAGE: index, state, changed count, known count. -/
def entryBytes (t : SettleTable) (page : Nat) : List Byte :=
  match entryFor t page with
  | none => [0xFF#8, 0#8, 0#8, 0#8]
  | some i =>
    let e := t.entries[i]
    [BitVec.ofNat 8 i.val, entryStateCode e.state, BitVec.ofNat 8 (countOffsets e.changed),
     BitVec.ofNat 8 (countOffsets (knownSet e.image))]

def replyQueryPage (args : List Byte) (s : State) : Reply :=
  let page := arg16 args 0
  if s.remap.capacity ≤ page then turnDown .badParam s
  else
    answer
      (entryBytes s.table page ++ bytes16 (resolvePage s.remap page)
        ++ [if (remapOf s.remap page).isSome then 1#8 else 0#8]) s

def replyReadRecord (args : List Byte) (s : State) : Reply :=
  match s.remap.records[(arg args 0).toNat]? with
  | some r => answer ([kindCode r.kind, BitVec.ofNat 8 r.spare] ++ bytes16 r.page) s
  | none => turnDown .refused s

/-! ### Configuration (R190 to R192) -/

/-- The items 00h to 08h (R190). -/
inductive ConfigItem where
  | budget | retryLimit | writeStall | readStall | filler | sparesLow | defaultPolicy | defaultQuiet | defaultAge
  deriving DecidableEq, Repr

def itemOfByte (b : Byte) : Option ConfigItem :=
  match b.toNat with
  | 0 => some .budget
  | 1 => some .retryLimit
  | 2 => some .writeStall
  | 3 => some .readStall
  | 4 => some .filler
  | 5 => some .sparesLow
  | 6 => some .defaultPolicy
  | 7 => some .defaultQuiet
  | 8 => some .defaultAge
  | _ => none

/-- The range of an item (R190). -/
def itemInRange (i : ConfigItem) (v : Nat) : Bool :=
  match i with
  | .budget => 1 ≤ v && v ≤ 32
  | .retryLimit => v ≤ 3
  | .writeStall => 1 ≤ v && v ≤ 255
  | .readStall => 1 ≤ v && v ≤ 255
  | .filler => v ≤ 255
  | .sparesLow => v ≤ 256
  | .defaultPolicy => v ≤ 2
  | .defaultQuiet => 1 ≤ v && v ≤ 4095
  | .defaultAge => 10 ≤ v && v ≤ 65535

/-- The working value of an item. -/
def itemValue (i : ConfigItem) (s : State) : Nat :=
  match i with
  | .budget => s.cfg.budget
  | .retryLimit => s.cfg.retryLimit
  | .writeStall => s.cfg.writeStall
  | .readStall => s.cfg.readStall
  | .filler => s.cfg.filler.toNat
  | .sparesLow => s.cfg.sparesLow
  | .defaultPolicy => policyCode s.regions.dflt.policy
  | .defaultQuiet => s.regions.dflt.quiet
  | .defaultAge => s.regions.dflt.age

/-- The default policy record replaced. -/
def State.setDflt (p : PolicyRecord) (s : State) : State := s.setRegions { s.regions with dflt := p }

/-- An item takes a value; a new spares-low threshold sets the report state to CLEAR (R133, R190). -/
def State.setItem (i : ConfigItem) (v : Nat) (s : State) : State :=
  match i with
  | .budget => s.setCfg { s.cfg with budget := v }
  | .retryLimit => s.setCfg { s.cfg with retryLimit := v }
  | .writeStall => s.setCfg { s.cfg with writeStall := v }
  | .readStall => s.setCfg { s.cfg with readStall := v }
  | .filler => s.setCfg { s.cfg with filler := BitVec.ofNat 8 v }
  | .sparesLow => (s.setCfg { s.cfg with sparesLow := v }).setRemap { s.remap with lowReport := .clear }
  | .defaultPolicy => s.setDflt { s.regions.dflt with policy := (policyOfCode v).getD .absorb }
  | .defaultQuiet => s.setDflt { s.regions.dflt with quiet := v }
  | .defaultAge => s.setDflt { s.regions.dflt with age := v }

def replyGetConfig (args : List Byte) (s : State) : Reply :=
  let b := arg args 0
  match itemOfByte b with
  | some i => answer (bytes16 (itemValue i s) ++ List.replicate 7 0#8) s
  | none =>
    if b.toNat < 0x10 then turnDown .badParam s
    else
      match s.regions.region[b.toNat - 0x10]? with
      | some g => answer (regionBytes g) s
      | none => turnDown .badParam s

/-- The check of step 3: age not below quiet (R50, R191). -/
def keepsAgeAboveQuiet (i : ConfigItem) (v : Nat) (s : State) : Bool :=
  match i with
  | .defaultQuiet => v ≤ s.regions.dflt.age
  | .defaultAge => s.regions.dflt.quiet ≤ v
  | _ => true

/-- SET_CONFIG with the checks of R191 in order. -/
def replySetConfig (args : List Byte) (s : State) : Reply :=
  let v := arg16 args 1
  match itemOfByte (arg args 0) with
  | none => turnDown .badParam s
  | some i =>
    if itemInRange i v = false then turnDown .badParam s
    else if keepsAgeAboveQuiet i v s = false then turnDown .badParam s
    else if i = .budget ∧ v < dirtyCount s.table then turnDown .refused s
    else answer [] (s.setItem i v).configChange

/-- The region record that SET_REGION's arguments name: first, count, policy, quiet, age after the index (R192). -/
def regionOfArgs (args : List Byte) : Option Region :=
  (policyOfCode (arg args 5).toNat).map fun p =>
    { first := arg16 args 1, count := arg16 args 3,
      record := { policy := p, quiet := arg16 args 6, age := arg16 args 8 } }

/-- SET_REGION with the checks of R50 (R192). -/
def replySetRegion (args : List Byte) (s : State) : Reply :=
  let n := (arg args 0).toNat
  match regionOfArgs args with
  | none => turnDown .badParam s
  | some g =>
    if h : n < 4 then
      if regionValid s.remap.capacity g then
        answer [] (s.setRegions { s.regions with region := s.regions.region.set n g }).configChange
      else turnDown .badParam s
    else turnDown .badParam s

/-! ### SYNC, SAVE, REARM (R193 to R196) -/

/-- The marking and promotion of a SYNC (R28, R193). -/
def syncTable (t : SettleTable) : SettleTable :=
  promoteAll (indicesWhere t (inState .settling))
    (mapEntries (fun e => if syncMarks e then { e with syncMark := true } else e) t)

/-- SYNC (R193): with no entry marked it completes in the step that takes it, and the field is never SYNC. -/
def replySync (s : State) : Reply :=
  if s.mode = .fault then turnDown .refused s
  else
    let marked := s.table.entries.toList.countP syncMarks
    let s1 := s.setTable (syncTable s.table)
    let s2 := if marked = 0 then s1.finishSync else s1.setLink { s1.link with longCommand := .sync }
    answer [BitVec.ofNat 8 marked, BitVec.ofNat 8 (pinnedCount s.table)] s2.placeStart

/-- SAVE (R150, R195). In FAULT it ends failed at once; otherwise it starts a job, or rides on the one that follows. -/
def replySave (s : State) : Reply :=
  if s.mode = .fault then
    answer [] ((s.setStore { s.store with status := .stale }).raise .mstale)
  else
    let m : MapStore :=
      match s.store.job with
      | none => { s.store with startDue := true, saveRequest := .running }
      | some _ => { s.store with persistAgain := true, saveRequest := .waiting }
    answer [] ((s.setStore m).setLink { s.link with longCommand := .save }).refreshFlush

/-- REARM (R139, R196): every PINNED entry is promoted in ascending index order. -/
def replyRearm (s : State) : Reply :=
  if s.mode = .fault then turnDown .refused s
  else
    answer [BitVec.ofNat 8 (pinnedCount s.table)]
      ((s.setTable (promoteAll (indicesWhere s.table (inState .pinned)) s.table)).placeStart).refreshFlush

/-! ### Taking a command (R179, R182) -/

/-- The command's own checks and effect. -/
def commandReply (c : Command) (args : List Byte) (s : State) : Reply :=
  match c with
  | .getId => replyGetId s
  | .getStatus => replyGetStatus s
  | .getEvents => replyGetEvents s
  | .clearEvents => replyClearEvents args s
  | .setEnables => replySetEnables args s
  | .getCapture => replyGetCapture s
  | .releaseCapture => replyReleaseCapture s
  | .getCounter => replyGetCounter args s
  | .clearCounters => replyClearCounters s
  | .queryPage => replyQueryPage args s
  | .readRecord => replyReadRecord args s
  | .getConfig => replyGetConfig args s
  | .setConfig => replySetConfig args s
  | .setRegion => replySetRegion args s
  | .sync => replySync s
  | .save => replySave s
  | .rearm => replyRearm s

/-- The status in the order of R182: BOOT, a long command in flight, then the command's own checks. -/
def decideReply (c : Command) (args : List Byte) (s : State) : Reply :=
  if s.mode = .boot ∧ answeredInBoot c = false then turnDown .notReady s
  else if isLong c ∧ s.link.longCommand ≠ .none then turnDown .collide s
  else commandReply c args s

/-- The frame state changed. -/
def State.setFrame (f : Frame) (s : State) : State := s.setLink { s.link with frame := f }

/-- A command takes effect: its status, its effect and all its response bytes are fixed in one step (R179). -/
def State.takeEffect (c : Command) (args : List Byte) (s : State) : State :=
  let r := decideReply c args s
  r.after.setFrame (.response (responseBytes c r))

/-- A command byte that names no command: UNKNOWN at once (R180). -/
def State.takeUnknown (s : State) : State := s.setFrame (.response [statusCode .unknown])

/-- A command without arguments takes effect at the eighth bit of its command byte, in frame state COMMAND (R179). -/
def State.takeBare (c : Command) (s : State) : State :=
  if s.link.frame = .command then s.takeEffect c [] else s

/-- A command with arguments takes effect at the eighth bit of its last argument byte (R179). -/
def State.takeWithLast (c : Command) (last : Byte) (s : State) : State :=
  match s.link.frame with
  | .arguments c' taken =>
    if c' = c ∧ taken.length + 1 = argumentCount c then s.takeEffect c (taken ++ [last]) else s
  | _ => s

/-- One more byte of the frame (R179). A byte that makes a command take effect does so here too (log 10). -/
def State.frameByte (b : Byte) (s : State) : State :=
  match s.link.frame with
  | .command =>
    match commandOfCode b with
    | none => s.takeUnknown
    | some c => if argumentCount c = 0 then s.takeEffect c [] else s.setFrame (.arguments c [])
  | .arguments c taken =>
    if taken.length + 1 < argumentCount c then s.setFrame (.arguments c (taken ++ [b]))
    else s.takeEffect c (taken ++ [b])
  | .response (_ :: y :: rest) => s.setFrame (.response (y :: rest))
  | .response _ => s.setFrame .drain
  | _ => s

/-- What LDO carries during the byte now being clocked: the next response byte, 00h otherwise, also in a frame that is
ignored after a reset (log 10); not driven while LCS# is deasserted or a reset is asserted (R178, R183). -/
def ldoByte (s : State) : Option Byte :=
  if s.inReset || !s.link.lcs then none
  else
    match s.link.frame with
    | .response (x :: _) => some x
    | _ => some 0#8

end Sys2Proof.Machine
end

