-- ==== Sys2Proof/Machine/ExecCommit.lean ====
section
/-!
DEFINITION. The meanings of the commit engine's and the memory port's rows: SNAPSHOT, FILL_COMPLETE,
PROGRAM_CLAIM_GRANT, PAGE_PROGRAM_COMPLETE, VERIFY_CLAIM_GRANT, VERIFY_COMPLETE, PROGRAM_LIMIT_EXPIRY.
-/
namespace Sys2Proof.Machine

/-- SNAPSHOT (R86). -/
def execSnapshot (s : State) : Host.Outcome State Fault Refusal := s.followOn .snapshot

/-- The fill's PAGE READ completes (R88). -/
def State.fillReadDone (s : State) : State :=
  match s.port, s.ce.record with
  | .reading (.fill page), some r => (s.setPort .idle).fillDone r (s.readPage page)
  | _, _ => s

/-- FILL_COMPLETE (R88). -/
def execFillComplete (s : State) : Host.Outcome State Fault Refusal := s.event State.fillReadDone

/-- PROGRAM_CLAIM_GRANT (R93). -/
def execProgramClaimGrant (s : State) : Host.Outcome State Fault Refusal := s.followOn .programClaimGrant

/-- MRDY rises in CLOCK: the PNV has ended a program that a reset cut off, and the part does not look (R112; log 6). -/
def State.unseenRise (result : ProgramResult) (s : State) : State :=
  match s.boot.stage with
  | .clock _ => s.endCutProgram result
  | _ => s

/-- A PAGE PROGRAM completes: the PNV holds its result, the port is IDLE, and the claimant places its verify claim
(R116, R126). -/
def State.programDone (result : ProgramResult) (s : State) : State :=
  match s.port with
  | .programming .commitEngine _ _ =>
    ((s.endProgram result).setPort .idle).setCe { s.ce with stage := .awaitVerify }
  | .programming .mapStore _ _ =>
    ((s.endProgram result).setPort .idle).setStore
      { s.store with jobData := { s.store.jobData with step := .verify } }
  | _ => s.unseenRise result

/-- PAGE_PROGRAM_COMPLETE (R116). -/
def execPageProgramComplete (result : ProgramResult) (s : State) : Host.Outcome State Fault Refusal :=
  s.event fun s => s.programDone result

/-- VERIFY_CLAIM_GRANT (R94). -/
def execVerifyClaimGrant (s : State) : Host.Outcome State Fault Refusal := s.followOn .verifyClaimGrant

/-- The commit engine's verify read completes (R94). -/
def State.verifyReadDone (s : State) : State :=
  match s.port, s.ce.record with
  | .reading (.verify page), some r => (s.setPort .idle).verifyDone r (s.readPage page)
  | _, _ => s

/-- VERIFY_COMPLETE (R94). -/
def execVerifyComplete (s : State) : Host.Outcome State Fault Refusal := s.event State.verifyReadDone

/-- PROGRAM_LIMIT_EXPIRY (R118): the last tick of the program limit has come. -/
def execProgramLimitExpiry (s : State) : Host.Outcome State Fault Refusal :=
  s.event fun s => if programLimitExpired s.port then s.programTimesOut else s

end Sys2Proof.Machine
end

