-- ==== Sys2Proof/Machine/ExecHost.lean ====
section
/-!
DEFINITION. The meanings of the host bus rows and of the settle table's own rows: HOST_WRITE, HOST_READ,
ARRIVAL_CONDITION_FALSE, STALL_EXPIRY, BYTE_READ_GRANT, BYTE_READ_COMPLETE, WAITING_WRITE_TAKEN_AGAIN, PRESSURE,
QUIET_DEADLINE_EXPIRY, AGE_DEADLINE_EXPIRY.
-/
namespace Sys2Proof.Machine

/-- The strobes on the pins (R62, R64). -/
def State.setStrobe (k : Option Strobe) (s : State) : State := s.setHost { s.host with strobe := k }

/-- The strobes once a strobe is seen asserted. In bus state IDLE, and from both or none, the arrival condition has come
true with it; where it is true with the other strobe, the two are now both asserted, and it is false (R62, log 19). -/
def joinStrobe (k : Strobe) (watching : Bool) (now : Option Strobe) : Option Strobe :=
  if watching then some k
  else
    match k, now with
    | .write, some .read => some .both
    | .read, some .write => some .both
    | _, _ => some k

/-- A strobe is seen asserted. -/
def State.assertStrobe (k : Strobe) (s : State) : State :=
  s.setStrobe (joinStrobe k (!s.inReset && s.host.bus == .idle) s.host.strobe)

/-- A row that moves an input pin: in reset the pin alone is followed. -/
def State.pinEvent (pin effect : State → State) (s : State) : Host.Outcome State Fault Refusal :=
  if s.inReset then .next (pin s) else .next (effect (pin s.settled))

/-- The bus state once a strobe has moved: ENDED goes to IDLE when the arrival condition is false, and an ended read's
byte stays on HD for as long as HCS# and HRD# are asserted; PENDING does not watch (R62 to R64). -/
def State.followStrobe (s : State) : State :=
  if s.host.bus = .ended ∧ arrivalHolds s.host.strobe = false then
    s.setHost
      { s.host with bus := .idle, readByte := if readLinesAsserted s.host.strobe then s.host.readByte else none }
  else s

/-- A write strobe: an access arrives when the port is IDLE, and none does otherwise (R62, R64). -/
def State.writeStrobe (a : HostAddr) (d : Byte) (s : State) : State :=
  if s.host.bus = .idle then s.arriveWrite a d else s.followStrobe

/-- HOST_WRITE (R67). -/
def execHostWrite (a : HostAddr) (d : Byte) (s : State) : Host.Outcome State Fault Refusal :=
  s.pinEvent (State.assertStrobe .write) (State.writeStrobe a d)

/-- A read strobe: an access arrives when the port is IDLE, and none does otherwise (R62, R64). -/
def State.readStrobe (a : HostAddr) (s : State) : State :=
  if s.host.bus = .idle then s.arriveRead a else s.followStrobe

/-- HOST_READ (R71). -/
def execHostRead (a : HostAddr) (s : State) : Host.Outcome State Fault Refusal :=
  s.pinEvent (State.assertStrobe .read) (State.readStrobe a)

/-- ARRIVAL_CONDITION_FALSE (R62): the host has released its strobe or chip select. -/
def execArrivalConditionFalse (s : State) : Host.Outcome State Fault Refusal :=
  s.pinEvent (State.setStrobe none) State.followStrobe

/-- STALL_EXPIRY (R66): the last tick of the stall interval has come. -/
def execStallExpiry (s : State) : Host.Outcome State Fault Refusal :=
  s.event fun s => if stallExpired s.host then s.stallExpires else s

/-- BYTE_READ_GRANT (R72). -/
def execByteReadGrant (s : State) : Host.Outcome State Fault Refusal := s.followOn .byteReadGrant

/-- A BYTE READ completes at the port (R113). -/
def State.hostByteDone (s : State) : State :=
  match s.port with
  | .reading (.hostByte page o) => (s.setPort .idle).byteReadDone (s.readByte page o)
  | _ => s

/-- BYTE_READ_COMPLETE (R73). -/
def execByteReadComplete (s : State) : Host.Outcome State Fault Refusal := s.event State.hostByteDone

/-- WAITING_WRITE_TAKEN_AGAIN (R40). -/
def execWaitingWriteTakenAgain (s : State) : Host.Outcome State Fault Refusal := s.followOn .waitingWriteTakenAgain

/-- PRESSURE (R41). -/
def execPressure (s : State) : Host.Outcome State Fault Refusal := s.followOn .pressure

/-- QUIET_DEADLINE_EXPIRY (R24): the tick that brings the deadline to zero has come. -/
def execQuietDeadlineExpiry (i : Index) (s : State) : Host.Outcome State Fault Refusal :=
  s.event fun s => if s.table.entries[i].quiet = some 0 then s.quietExpires i else s

/-- AGE_DEADLINE_EXPIRY (R23, R24): the tick that brings the deadline to zero has come. -/
def execAgeDeadlineExpiry (i : Index) (s : State) : Host.Outcome State Fault Refusal :=
  s.event fun s => if s.table.entries[i].age = some 0 then s.ageExpires i else s

end Sys2Proof.Machine
end

