-- ==== Sys2Proof/Machine/ExecHoldUp.lean ====
section
/-!
DEFINITION. The meanings of the hold-up rows: PFW_ASSERTED, PFW_DEASSERTED, FLUSH_DONE.
-/
namespace Sys2Proof.Machine

/-- PFW# asserted in RUN takes the part into HOLDUP; in any other mode the level alone changes (R167, R168). -/
def State.pfwFalls (s : State) : State := if s.mode = .run then s.enterHoldup else s

/-- PFW_ASSERTED (R168). -/
def execPfwAsserted (s : State) : Host.Outcome State Fault Refusal :=
  s.pinEvent (fun s => s.setPfw true) State.pfwFalls

/-- PFW# deasserted in HOLDUP returns the part to RUN; in any other mode the level alone changes (R167, R173). -/
def State.pfwRises (s : State) : State := if s.mode = .holdup then s.leaveHoldup else s

/-- PFW_DEASSERTED (R173). -/
def execPfwDeasserted (s : State) : Host.Outcome State Fault Refusal :=
  s.pinEvent (fun s => s.setPfw false) State.pfwRises

/-- FLUSH_DONE (R172). -/
def execFlushDone (s : State) : Host.Outcome State Fault Refusal := s.followOn .flushDone

end Sys2Proof.Machine
end

