-- ==== Sys2Proof/Machine/ExecLink.lean ====
section
/-!
DEFINITION. The meanings of the management link's rows: frames, LINK_BYTE, UNKNOWN_COMMAND, the seventeen commands, and
SYNC_COMPLETE.
-/
namespace Sys2Proof.Machine

/-- LCS# falls: a frame begins (R178). A fall needs LCS# to be high. -/
def State.lcsFalls (s : State) : State :=
  if s.link.lcs then s else s.setLink { s.link with lcs := true, frame := if s.inReset then .none else .command }

/-- FRAME_BEGIN (R178). -/
def execFrameBegin (s : State) : Host.Outcome State Fault Refusal := s.pinEvent State.lcsFalls id

/-- LCS# rises: the frame ends in any frame state (R179, R181). -/
def State.lcsRises (s : State) : State := s.setLink { s.link with lcs := false, frame := .none }

/-- FRAME_END (R181). -/
def execFrameEnd (s : State) : Host.Outcome State Fault Refusal := s.pinEvent State.lcsRises id

/-- LINK_BYTE (R179). -/
def execLinkByte (b : Byte) (s : State) : Host.Outcome State Fault Refusal := s.event fun s => s.frameByte b

/-- UNKNOWN_COMMAND (R180). -/
def execUnknownCommand (code : Byte) (s : State) : Host.Outcome State Fault Refusal :=
  s.event fun s => if s.link.frame = .command ∧ commandOfCode code = none then s.takeUnknown else s

/-- GET_ID (R184). -/
def execGetId (s : State) : Host.Outcome State Fault Refusal := s.event (State.takeBare .getId)

/-- GET_STATUS (R184). -/
def execGetStatus (s : State) : Host.Outcome State Fault Refusal := s.event (State.takeBare .getStatus)

/-- GET_EVENTS (R185). -/
def execGetEvents (s : State) : Host.Outcome State Fault Refusal := s.event (State.takeBare .getEvents)

/-- GET_CAPTURE (R186). -/
def execGetCapture (s : State) : Host.Outcome State Fault Refusal := s.event (State.takeBare .getCapture)

/-- RELEASE_CAPTURE (R186). -/
def execReleaseCapture (s : State) : Host.Outcome State Fault Refusal := s.event (State.takeBare .releaseCapture)

/-- CLEAR_COUNTERS (R187). -/
def execClearCounters (s : State) : Host.Outcome State Fault Refusal := s.event (State.takeBare .clearCounters)

/-- SYNC (R193). -/
def execSync (s : State) : Host.Outcome State Fault Refusal := s.event (State.takeBare .sync)

/-- SAVE (R195). -/
def execSave (s : State) : Host.Outcome State Fault Refusal := s.event (State.takeBare .save)

/-- REARM (R139, R196). -/
def execRearm (s : State) : Host.Outcome State Fault Refusal := s.event (State.takeBare .rearm)

/-- CLEAR_EVENTS (R185). -/
def execClearEvents (last : Byte) (s : State) : Host.Outcome State Fault Refusal :=
  s.event (State.takeWithLast .clearEvents last)

/-- SET_ENABLES (R185). -/
def execSetEnables (last : Byte) (s : State) : Host.Outcome State Fault Refusal :=
  s.event (State.takeWithLast .setEnables last)

/-- GET_COUNTER (R187). -/
def execGetCounter (last : Byte) (s : State) : Host.Outcome State Fault Refusal :=
  s.event (State.takeWithLast .getCounter last)

/-- QUERY_PAGE (R188). -/
def execQueryPage (last : Byte) (s : State) : Host.Outcome State Fault Refusal :=
  s.event (State.takeWithLast .queryPage last)

/-- READ_RECORD (R189). -/
def execReadRecord (last : Byte) (s : State) : Host.Outcome State Fault Refusal :=
  s.event (State.takeWithLast .readRecord last)

/-- GET_CONFIG (R190). -/
def execGetConfig (last : Byte) (s : State) : Host.Outcome State Fault Refusal :=
  s.event (State.takeWithLast .getConfig last)

/-- SET_CONFIG (R191). -/
def execSetConfig (last : Byte) (s : State) : Host.Outcome State Fault Refusal :=
  s.event (State.takeWithLast .setConfig last)

/-- SET_REGION (R192). -/
def execSetRegion (last : Byte) (s : State) : Host.Outcome State Fault Refusal :=
  s.event (State.takeWithLast .setRegion last)

/-- SYNC_COMPLETE (R194). -/
def execSyncComplete (s : State) : Host.Outcome State Fault Refusal := s.followOn .syncComplete

end Sys2Proof.Machine
end

