-- ==== Sys2Proof/Machine/ExecMap.lean ====
section
/-!
DEFINITION. The meanings of the map store's rows: PERSIST_JOB_START, MAP_STORE_STEP_GRANT, MAP_STORE_VERIFY_COMPLETE,
SAVE_COMPLETE.
-/
namespace Sys2Proof.Machine

/-- PERSIST_JOB_START (R151). -/
def execPersistJobStart (s : State) : Host.Outcome State Fault Refusal := s.followOn .persistJobStart

/-- MAP_STORE_STEP_GRANT (R153). -/
def execMapStoreStepGrant (s : State) : Host.Outcome State Fault Refusal := s.followOn .mapStoreStepGrant

/-- The verify read of a persist job completes (R154). -/
def State.mapVerifyReadDone (s : State) : State :=
  match s.port, s.store.job with
  | .reading (.mapVerify page), some j => (s.setPort .idle).mapVerified j page
  | _, _ => s

/-- MAP_STORE_VERIFY_COMPLETE (R154). -/
def execMapStoreVerifyComplete (s : State) : Host.Outcome State Fault Refusal := s.event State.mapVerifyReadDone

/-- SAVE_COMPLETE (R150). -/
def execSaveComplete (s : State) : Host.Outcome State Fault Refusal := s.followOn .saveComplete

end Sys2Proof.Machine
end

