-- ==== Sys2Proof/Machine/ExecReset.lean ====
section
/-!
DEFINITION. The meanings of the reset and timebase rows and of the boot rows: POWER_ON_RESET, RST, RELEASE_FROM_RESET,
TIMEBASE_TICK, CLOCK_STAGE_END, READY_MRDY_HIGH, READY_TIMEOUT, LOAD_PAGE_READ_COMPLETE.
-/
namespace Sys2Proof.Machine

/-- Every block in its reset state, with the event unit given. The input pins stay as they are driven, the PNV keeps
its content and goes on with a program whose latch load is complete (R125, R157), and the queue is not the block's. -/
def State.resetBlocks (events : EventUnit) (s : State) : State :=
  { State.reset with
    pending := s.pending
    host := { State.reset.host with strobe := s.host.strobe }
    pfw := s.pfw
    link := { State.reset.link with lcs := s.link.lcs }
    pnv := s.cutOperation.pnv
    events := events
    choices := s.cutOperation.choices }

/-- The event unit after RST# discards n dirty entries: flags and enables at their defaults, the loss counted, capture
record, overflow and counters kept (R197, R198, R200 to R202). -/
def eventsAfterRst (n : Nat) (e : EventUnit) : EventUnit :=
  addLoss n { e with flags := EventUnit.reset.flags, enables := EventUnit.reset.enables }

/-- POWER_ON_RESET (R15, R48, R61, R79, R84, R125, R142, R144, R167, R183, R197 to R202). -/
def execPowerOnReset (s : State) : Host.Outcome State Fault Refusal := .next (s.settled.resetBlocks EventUnit.reset)

/-- RST (R48, R202): as power-on reset, but the dirty entries discarded are counted and the event unit keeps its
counters and its capture record. -/
def execRst (s : State) : Host.Outcome State Fault Refusal :=
  let s1 := s.settled
  .next (s1.resetBlocks (eventsAfterRst (dirtyCount s1.table) s1.events))

/-- Release from either reset: the straps are sampled, the timebase starts, boot begins; a strobe or LCS# that is
asserted is not taken as an access or a frame (R3, R4, R21, R79, R158, R183). -/
def State.release (msize spare : BitVec 2) (s : State) : State :=
  { s with
    inReset := false
    straps := { msize, spare }
    time := { phase := 0, stamp := 0#32 }
    mode := .boot
    boot := BootLoader.reset
    host := { s.host with bus := if arrivalHolds s.host.strobe then .ended else .idle }
    link := { s.link with frame := if s.link.lcs then .ignored else .none } }

/-- RELEASE_FROM_RESET (R3). -/
def execReleaseFromReset (msize spare : BitVec 2) (s : State) : Host.Outcome State Fault Refusal :=
  if s.inReset then .next (s.release msize spare) else .next s.settled

/-- One 100 µs tick on the stall interval (R66). -/
def tickStall (h : HostPort) : HostPort :=
  { h with pend := h.pend.map fun p => { p with stallLeft := p.stallLeft - 1 } }

/-- One 1 ms tick on the program limit (R117). -/
def tickPort : PortState → PortState
  | .programming who page limit => .programming who page (limit - 1)
  | p => p

/-- One 1 ms tick on the CLOCK stage and on READY's interval (R124, R158). -/
def tickBoot (b : BootLoader) : BootLoader :=
  match b.stage with
  | .clock left => { b with stage := .clock (left - 1) }
  | .ready left => { b with stage := .ready (left - 1) }
  | _ => b

/-- The 1 ms tick: the time stamp, every running deadline, the program limit, the start-up waits (R21 to R23). -/
def State.tickMs (s : State) : State :=
  (((s.setTime { phase := 0, stamp := s.time.stamp + 1 }).setTable (mapEntries tickEntry s.table)).setPort
    (tickPort s.port)).setBoot (tickBoot s.boot)

/-- One tick of the timebase: a 100 µs tick, and on every tenth the 1 ms tick (R21). -/
def State.tick (s : State) : State :=
  let s1 := s.setHost (tickStall s.host)
  if s1.time.phase + 1 < 10 then s1.setTime { s1.time with phase := s1.time.phase + 1 } else s1.tickMs

/-- TIMEBASE_TICK (R21). The rows that the tick before made due have been taken (log 3). -/
def execTimebaseTick (s : State) : Host.Outcome State Fault Refusal :=
  if s.inReset then .next s else .next s.readyForTick.tick

/-! ### Boot -/

/-- CLOCK_STAGE_END (R158): the 16th 1 ms tick after release has come. -/
def execClockStageEnd (s : State) : Host.Outcome State Fault Refusal :=
  s.followOn .clockStageEnd

/-- MRDY is seen to rise in READY: the PNV has ended the program that a reset cut off, and LOAD A begins (R124, R159). -/
def State.mrdyHigh (result : ProgramResult) (s : State) : State :=
  match s.boot.stage with
  | .ready _ => (s.endCutProgram result).loadPage .a 0
  | _ => s

/-- READY_MRDY_HIGH (R124). -/
def execReadyMrdyHigh (result : ProgramResult) (s : State) : Host.Outcome State Fault Refusal :=
  s.event fun s => s.mrdyHigh result

/-- READY_TIMEOUT (R124): the 25-tick interval has run out with MRDY low. -/
def execReadyTimeout (s : State) : Host.Outcome State Fault Refusal :=
  s.event fun s => if readyExpired s then s.readyTimesOut else s

/-- A PAGE READ of the boot loader completes (R114, R159). -/
def State.loadReadDone (s : State) : State :=
  match s.port, s.boot.stage with
  | .reading (.load page), .load c k => s.pageLoaded c k (s.readPage page)
  | _, _ => s

/-- LOAD_PAGE_READ_COMPLETE (R159). -/
def execLoadPageReadComplete (s : State) : Host.Outcome State Fault Refusal := s.event State.loadReadDone

end Sys2Proof.Machine
end

