-- ==== Sys2Proof/Machine/Dispatch.lean ====
section
/-!
DEFINITION. exec: one arm per row of the table.
-/
namespace Sys2Proof.Machine

/-- The effect of a command on everything but the queue. -/
def exec (i : Instr) (s : State) : Host.Outcome State Fault Refusal :=
  match i with
  | .powerOnReset => Sys2Proof.Machine.execPowerOnReset s
  | .rst => Sys2Proof.Machine.execRst s
  | .releaseFromReset msize spare => Sys2Proof.Machine.execReleaseFromReset msize spare s
  | .timebaseTick => Sys2Proof.Machine.execTimebaseTick s
  | .hostWrite a d => Sys2Proof.Machine.execHostWrite a d s
  | .hostRead a => Sys2Proof.Machine.execHostRead a s
  | .arrivalConditionFalse => Sys2Proof.Machine.execArrivalConditionFalse s
  | .stallExpiry => Sys2Proof.Machine.execStallExpiry s
  | .waitingWriteTakenAgain => Sys2Proof.Machine.execWaitingWriteTakenAgain s
  | .pressure => Sys2Proof.Machine.execPressure s
  | .quietDeadlineExpiry k => Sys2Proof.Machine.execQuietDeadlineExpiry k s
  | .ageDeadlineExpiry k => Sys2Proof.Machine.execAgeDeadlineExpiry k s
  | .snapshot => Sys2Proof.Machine.execSnapshot s
  | .fillComplete => Sys2Proof.Machine.execFillComplete s
  | .programClaimGrant => Sys2Proof.Machine.execProgramClaimGrant s
  | .pageProgramComplete result => Sys2Proof.Machine.execPageProgramComplete result s
  | .verifyClaimGrant => Sys2Proof.Machine.execVerifyClaimGrant s
  | .verifyComplete => Sys2Proof.Machine.execVerifyComplete s
  | .byteReadGrant => Sys2Proof.Machine.execByteReadGrant s
  | .byteReadComplete => Sys2Proof.Machine.execByteReadComplete s
  | .programLimitExpiry => Sys2Proof.Machine.execProgramLimitExpiry s
  | .mapStoreStepGrant => Sys2Proof.Machine.execMapStoreStepGrant s
  | .mapStoreVerifyComplete => Sys2Proof.Machine.execMapStoreVerifyComplete s
  | .persistJobStart => Sys2Proof.Machine.execPersistJobStart s
  | .saveComplete => Sys2Proof.Machine.execSaveComplete s
  | .clockStageEnd => Sys2Proof.Machine.execClockStageEnd s
  | .readyMrdyHigh result => Sys2Proof.Machine.execReadyMrdyHigh result s
  | .readyTimeout => Sys2Proof.Machine.execReadyTimeout s
  | .loadPageReadComplete => Sys2Proof.Machine.execLoadPageReadComplete s
  | .pfwAsserted => Sys2Proof.Machine.execPfwAsserted s
  | .pfwDeasserted => Sys2Proof.Machine.execPfwDeasserted s
  | .flushDone => Sys2Proof.Machine.execFlushDone s
  | .frameBegin => Sys2Proof.Machine.execFrameBegin s
  | .frameEnd => Sys2Proof.Machine.execFrameEnd s
  | .unknownCommand code => Sys2Proof.Machine.execUnknownCommand code s
  | .getId => Sys2Proof.Machine.execGetId s
  | .getStatus => Sys2Proof.Machine.execGetStatus s
  | .getEvents => Sys2Proof.Machine.execGetEvents s
  | .clearEvents last => Sys2Proof.Machine.execClearEvents last s
  | .setEnables last => Sys2Proof.Machine.execSetEnables last s
  | .getCapture => Sys2Proof.Machine.execGetCapture s
  | .releaseCapture => Sys2Proof.Machine.execReleaseCapture s
  | .getCounter last => Sys2Proof.Machine.execGetCounter last s
  | .clearCounters => Sys2Proof.Machine.execClearCounters s
  | .queryPage last => Sys2Proof.Machine.execQueryPage last s
  | .readRecord last => Sys2Proof.Machine.execReadRecord last s
  | .getConfig last => Sys2Proof.Machine.execGetConfig last s
  | .setConfig last => Sys2Proof.Machine.execSetConfig last s
  | .setRegion last => Sys2Proof.Machine.execSetRegion last s
  | .sync => Sys2Proof.Machine.execSync s
  | .syncComplete => Sys2Proof.Machine.execSyncComplete s
  | .save => Sys2Proof.Machine.execSave s
  | .rearm => Sys2Proof.Machine.execRearm s
  | .linkByte b => Sys2Proof.Machine.execLinkByte b s

end Sys2Proof.Machine
end

