-- ==== Sys2Proof/Safety.lean ====
section
/-!
DEFINITION. The terms in which claims are made: a state whose last step is complete, which commands come from outside,
and the laws that a safe run keeps (the manual's "laws of the device": R6, R18 to R20, R26, R30, R87, R103).
-/
namespace Sys2Proof.Machine

/-- The part runs (no reset is asserted) and all that the last event brings about in its step has come about (log 1). -/
abbrev State.atRest (s : State) : Prop := s.inReset = false ∧ s.due = none

/-- The follow-on that a row stands for; `none` for a row that the environment sends. -/
def followOnOf : Instr → Option FollowOn
  | .clockStageEnd => some .clockStageEnd
  | .syncComplete => some .syncComplete
  | .saveComplete => some .saveComplete
  | .persistJobStart => some .persistJobStart
  | .waitingWriteTakenAgain => some .waitingWriteTakenAgain
  | .pressure => some .pressure
  | .byteReadGrant => some .byteReadGrant
  | .mapStoreStepGrant => some .mapStoreStepGrant
  | .snapshot => some .snapshot
  | .programClaimGrant => some .programClaimGrant
  | .verifyClaimGrant => some .verifyClaimGrant
  | .flushDone => some .flushDone
  | .powerOnReset => none
  | .rst => none
  | .releaseFromReset _ _ => none
  | .timebaseTick => none
  | .hostWrite _ _ => none
  | .hostRead _ => none
  | .arrivalConditionFalse => none
  | .stallExpiry => none
  | .quietDeadlineExpiry _ => none
  | .ageDeadlineExpiry _ => none
  | .fillComplete => none
  | .pageProgramComplete _ => none
  | .verifyComplete => none
  | .byteReadComplete => none
  | .programLimitExpiry => none
  | .mapStoreVerifyComplete => none
  | .readyMrdyHigh _ => none
  | .readyTimeout => none
  | .loadPageReadComplete => none
  | .pfwAsserted => none
  | .pfwDeasserted => none
  | .frameBegin => none
  | .frameEnd => none
  | .unknownCommand _ => none
  | .getId => none
  | .getStatus => none
  | .getEvents => none
  | .clearEvents _ => none
  | .setEnables _ => none
  | .getCapture => none
  | .releaseCapture => none
  | .getCounter _ => none
  | .clearCounters => none
  | .queryPage _ => none
  | .readRecord _ => none
  | .getConfig _ => none
  | .setConfig _ => none
  | .setRegion _ => none
  | .sync => none
  | .save => none
  | .rearm => none
  | .linkByte _ => none

/-- The row by which the sender takes an expiry (R23, R24, R66, R118, R124). -/
def expiryRow : Expiry → Instr
  | .quiet i => .quietDeadlineExpiry i
  | .age i => .ageDeadlineExpiry i
  | .stall => .stallExpiry
  | .programLimit => .programLimitExpiry
  | .ready => .readyTimeout

/-- The row of a command of the link, with the byte that completes it where it has arguments (R180). -/
def commandRow (c : Command) (last : Byte) : Instr :=
  match c with
  | .getId => .getId
  | .getStatus => .getStatus
  | .getEvents => .getEvents
  | .clearEvents => .clearEvents last
  | .setEnables => .setEnables last
  | .getCapture => .getCapture
  | .releaseCapture => .releaseCapture
  | .getCounter => .getCounter last
  | .clearCounters => .clearCounters
  | .queryPage => .queryPage last
  | .readRecord => .readRecord last
  | .getConfig => .getConfig last
  | .setConfig => .setConfig last
  | .setRegion => .setRegion last
  | .sync => .sync
  | .save => .save
  | .rearm => .rearm

/-- A row that asserts a reset. -/
def assertsReset (c : Instr) : Prop := c = .powerOnReset ∨ c = .rst

/-- A row that may carry out a link command, whichever it is. -/
def isLinkByte : Instr → Prop
  | .linkByte _ => True
  | _ => False

/-! ### The PNV -/

/-- The PNV's array is held in its one canonical form. -/
def MemoryLaw (s : State) : Prop := Memory.wf s.pnv.cells

/-! ### Before the end of boot -/

/-- Until boot is over, and while a reset is asserted, the table is empty, no commit and no job is in progress, no
program runs, and no write waits for admission (R48, R84, R119, R144). -/
structure BootLaw (s : State) : Prop where
  mode : s.mode = .boot
  free : ∀ i : Index, s.table.entries[i].state = .free
  record : s.ce.record = none
  job : s.store.job = none
  port : ∀ who page limit, s.port ≠ .programming who page limit
  host : waitingWrite s.host = none

/-! ### The settle table (R18 to R20, R26, R30, R103) -/

/-- The laws of the settle table, with the links to the commit engine that carry them from step to step. -/
structure TableLaw (s : State) : Prop where
  /-- R17: an entry that is not FREE holds a page. -/
  paged : ∀ i : Index, s.table.entries[i].state ≠ .free → s.table.entries[i].page.isSome
  /-- R18. -/
  distinct : ∀ i j : Index, s.table.entries[i].state ≠ .free → s.table.entries[j].state ≠ .free →
    s.table.entries[i].page = s.table.entries[j].page → i = j
  /-- R19: FREE entries hold nothing. -/
  free : ∀ i : Index, s.table.entries[i].state = .free → s.table.entries[i] = Entry.freed
  /-- R17: the changed set lies in the known set. -/
  known : ∀ (i : Index) (o : Offset), s.table.entries[i].changed[o] = true → s.table.entries[i].image[o].isSome
  /-- R19: a CLEAN entry has an empty changed set and a fully known image. -/
  clean : ∀ i : Index, s.table.entries[i].state = .clean →
    (∀ o : Offset, s.table.entries[i].changed[o] = false) ∧ ∀ o : Offset, s.table.entries[i].image[o].isSome
  /-- R19: SETTLING, DUE and PINNED entries have non-empty changed sets. -/
  changed : ∀ i : Index, s.table.entries[i].state = .settling ∨ s.table.entries[i].state = .due ∨
    s.table.entries[i].state = .pinned → ∃ o : Offset, s.table.entries[i].changed[o] = true
  /-- R26: the due queue holds exactly the entries in state DUE, each once. -/
  queue : s.table.dueQueue.Nodup ∧ ∀ i : Index, i ∈ s.table.dueQueue ↔ s.table.entries[i].state = .due
  /-- R30: the clean list holds each CLEAN entry once. -/
  cleans : s.table.cleanList.Nodup ∧ ∀ i : Index, i ∈ s.table.cleanList ↔ s.table.entries[i].state = .clean
  /-- R20: the dirty count never exceeds the hold-up budget, which is at most 32. -/
  budget : dirtyCount s.table ≤ s.cfg.budget ∧ s.cfg.budget ≤ 32
  /-- R103: the COMMITTING entry is the one of the commit record. -/
  committing : ∀ i : Index, s.table.entries[i].state = .committing ↔ ∃ r, s.ce.record = some r ∧ r.entry = i
  /-- R82: C is not empty and lies in the known set. -/
  change : ∀ r, s.ce.record = some r → (∃ o : Offset, r.changeSet[o] = true) ∧
    ∀ o : Offset, r.changeSet[o] = true → s.table.entries[r.entry].image[o].isSome
  /-- R88: from fill completion on the entry is fully known. -/
  filled : ∀ r, s.ce.record = some r → s.ce.stage ≠ .filling → ∀ o : Offset, s.table.entries[r.entry].image[o].isSome
  /-- R83: the record is empty in IDLE and STARTING alone. -/
  stages : s.ce.record = none ↔ s.ce.stage = .idle ∨ s.ce.stage = .starting
  /-- R83: a verify read is in progress in VERIFYING alone, a program in PROGRAMMING alone. -/
  reading : ∀ page, s.port = .reading (.verify page) → s.ce.stage = .verifying
  programming : ∀ page limit, s.port = .programming .commitEngine page limit → s.ce.stage = .programming
  boot : s.inReset = true ∨ s.boot.stage ≠ .ended → BootLaw s

/-! ### The remap map (R4 to R8, R16) -/

/-- The laws of the remap map, with the links that carry them from step to step. -/
structure MapLaw (s : State) : Prop where
  /-- R4, R15. -/
  capacity : s.remap.built = true ∧ sparesValid s.remap.spares = true ∧
      s.remap.capacity = pageCount s.straps.msize - 34 - s.remap.spares ∨
    s.remap.built = false ∧ s.remap.spares = 0 ∧ s.remap.capacity = 0 ∧ s.remap.records = []
  /-- R6: ascending spare index, so every spare index is named at most once. -/
  ascending : (s.remap.records.map (·.spare)).Pairwise (· < ·)
  /-- R5, R6: the spares lie below S. -/
  bound : ∀ m ∈ s.remap.records, m.spare < s.remap.spares
  /-- R5: a RETIRED record has logical page 0. -/
  retired : ∀ m ∈ s.remap.records, m.kind = .retired → m.page = 0
  /-- R5: a REMAP record's page lies below Lcap. -/
  remapped : ∀ m ∈ s.remap.records, m.kind = .remap → m.page < s.remap.capacity
  /-- R6: no logical page is named by more than one REMAP record. -/
  distinct : ((s.remap.records.filter fun m => m.kind == .remap).map (·.page)).Nodup
  /-- R17: the entries' pages lie below Lcap. -/
  pages : ∀ (i : Index) (p : Nat), s.table.entries[i].page = some p → p < s.remap.capacity
  /-- R82: the commit's page lies below Lcap, and a trial spare is free. -/
  record : ∀ r, s.ce.record = some r → r.page < s.remap.capacity ∧
    (r.trial = true → ∃ n, r.target = .spare n ∧ n < s.remap.spares ∧ ∀ m ∈ s.remap.records, m.spare ≠ n)
  /-- R67: a write that waits for admission is in range. -/
  waiting : ∀ a d, waitingWrite s.host = some (a, d) → a.toNat / 64 < s.remap.capacity
  boot : s.inReset = true ∨ s.boot.stage ≠ .ended → BootLaw s ∧ s.remap.built = false

/-! ### What is programmed (R87, R152) -/

/-- A physical page of a map copy (R145). -/
def inCopy (c : Copy) (page : Nat) : Prop := copyBase c ≤ page ∧ page < copyBase c + 17

/-- The job target is never the current copy; a program of the map store is at the page of its job's step, and one of
the commit engine at page 34 or above. -/
structure PersistLaw (s : State) : Prop where
  target : ∀ j, s.store.job = some j → s.store.current ≠ some j.target ∧ j.page < j.image.length ∧ j.image.length ≤ 17
  mapProgram : ∀ page limit, s.port = .programming .mapStore page limit →
    ∃ j, s.store.job = some j ∧ page = jobPhysical j
  commitProgram : ∀ page limit, s.port = .programming .commitEngine page limit → 34 ≤ page
  record : ∀ r, s.ce.record = some r → 34 ≤ r.targetPage
  boot : s.inReset = true ∨ s.boot.stage ≠ .ended → BootLaw s

/-- The commit engine's side of R87: the target is what resolution gives, or a spare under trial, and stays so for as long
as the commit keeps it; a program of the commit engine is at its target. -/
structure TargetLaw (s : State) : Prop where
  home : ∀ r, s.ce.record = some r → r.target = .home →
    r.targetPage = 34 + s.remap.spares + r.page ∧ ∀ m ∈ s.remap.records, m.kind = .remap → m.page ≠ r.page
  spare : ∀ r n, s.ce.record = some r → r.target = .spare n →
    r.targetPage = 34 + n ∧ n < s.remap.spares ∧
      (r.trial = false → ∃ m ∈ s.remap.records, m.kind = .remap ∧ m.spare = n ∧ m.page = r.page)
  program : ∀ page limit, s.port = .programming .commitEngine page limit →
    ∃ r, s.ce.record = some r ∧ page = r.targetPage

end Sys2Proof.Machine
end

