-- ==== Sys2Proof/Certificates/Slice0/Obligations.lean ====
section
/-!
DEFINITION. The statements for the provers, one `def Obligations.<Name> : Prop` each.
-/
open Sys2Proof Sys2Proof.Machine

/-! ### The step, the queue, the follow-on rows -/

/-- The step runs the command at the front of the queue on the state with the queue's rest; on an empty queue it idles
(the model's choice, log 12). -/
def Obligations.StepRunsFrontCommand : Prop :=
  ∀ s : State,
    (∀ (c : Instr) (rest : List Instr), s.pending = c :: rest → step s = exec c (s.setPending rest)) ∧
    (s.pending = [] → step s = .next s)

/-- Every command answers a next state from every state, and leaves the queue to the step. That a row which cannot come
about in a state answers that state unchanged (log 2), and that the queue is the step's alone (log 12), are the model's
choices. -/
def Obligations.EveryCommandAnswersAndKeepsQueue : Prop :=
  ∀ (c : Instr) (s : State), ∃ t, exec c s = .next t ∧ t.pending = s.pending

/-- A row from outside (the tick apart) is taken after everything that the last event brings about in its own step,
and where the laws of the settle table hold those rows come to an end within the bound (the model's reading of "in the
same step", log 1). -/
def Obligations.OutsideRowsWaitForTheStepToComplete : Prop :=
  (∀ (c : Instr) (s : State), followOnOf c = none → c ≠ .timebaseTick → s.inReset = false → s.settled.due = none →
    exec c s = exec c s.settled) ∧
  (∀ s : State, TableLaw s → s.settled.due = none)

/-- The arbiter's order (R120): at an idle port a host read's claim is granted first, then the map store's step, then the
commit engine's, whatever the other claims. -/
def Obligations.ArbiterGrantsHostThenMapStoreThenCommit : Prop :=
  ∀ s : State, s.port = .idle →
    ((waitingRead s.host).isSome → grantDue s = some .byteReadGrant) ∧
    (waitingRead s.host = none → s.store.job.isSome → grantDue s = some .mapStoreStepGrant) ∧
    (waitingRead s.host = none → s.store.job = none → s.ce.stage = .starting → s.table.dueQueue ≠ [] →
      grantDue s = some .snapshot) ∧
    (waitingRead s.host = none → s.store.job = none → s.ce.stage = .awaitProgram → s.ce.record ≠ none →
      grantDue s = some .programClaimGrant) ∧
    (waitingRead s.host = none → s.store.job = none → s.ce.stage = .awaitVerify → s.ce.record ≠ none →
      grantDue s = some .verifyClaimGrant) ∧
    (waitingRead s.host = none → s.store.job = none → s.ce.stage = .idle → grantDue s = none)

/-! ### Reset and time -/

/-- The reset rows. POWER_ON_RESET from any state: every block at its reset value, the event unit cleared with it. RST
at rest: the same, but the number of dirty entries discarded is added to the reset-loss count, which stops at 65535,
loss-pending is set when it is above 0, and capture record, overflow count and counters are kept. RELEASE_FROM_RESET:
the straps are sampled, the timebases and the CLOCK stage start, and a strobe or a select that is asserted is not
taken as an access or a frame. A PAGE PROGRAM in progress is cut off: short of its 64th byte it starts no program, past
it the PNV keeps its program (R125; which of the two is a free value, log 6). While a reset is asserted the other rows move the input pins alone. The pins' levels,
the PNV and the queue are not the block's; the values of State.reset that the manual does not give and the pins in
reset are the model's (logs 4, 9, 20, 21). -/
def Obligations.ResetRowsSetEveryBlock : Prop :=
  let cut (u : State) : Pnv :=
    if isProgramming u.port = true ∧ Config.latchLoadComplete u.choices = false then { u.pnv with busy := none }
    else u.pnv
  (∀ s : State,
    exec .powerOnReset s =
      .next
        { State.reset with
          pending := s.pending
          host := { State.reset.host with strobe := s.host.strobe }
          pfw := s.pfw
          link := { State.reset.link with lcs := s.link.lcs }
          pnv := cut s.settled
          choices := s.settled.choices + (if isProgramming s.settled.port = true then 1 else 0) }) ∧
  (∀ s : State, s.atRest →
    exec .rst s =
      .next
        { State.reset with
          pending := s.pending
          host := { State.reset.host with strobe := s.host.strobe }
          pfw := s.pfw
          link := { State.reset.link with lcs := s.link.lcs }
          pnv := cut s
          choices := s.choices + (if isProgramming s.port = true then 1 else 0)
          events :=
            { flags := 0#15, enables := 0x07FF#15, capture := s.events.capture, overflow := s.events.overflow
              counters := s.events.counters
              resetLoss := BitVec.ofNat 16 (min (s.events.resetLoss.toNat + dirtyCount s.table) 65535)
              lossPending := s.events.lossPending || decide (0 < dirtyCount s.table) } }) ∧
  (∀ (msize spare : BitVec 2) (s : State), s.inReset = true →
    exec (.releaseFromReset msize spare) s =
      .next
        { s with
          inReset := false
          straps := { msize := msize, spare := spare }
          time := { phase := 0, stamp := 0#32 }
          mode := .boot
          boot := { stage := .clock 16, pagesA := [], pagesB := [] }
          host := { s.host with bus := if s.host.strobe = some .read ∨ s.host.strobe = some .write then .ended else .idle }
          link := { s.link with frame := if s.link.lcs = true then .ignored else .none } }) ∧
  (∀ (c : Instr) (s : State), s.inReset = true → ¬ assertsReset c →
    (∀ m p, c ≠ .releaseFromReset m p) →
    ∃ t, exec c s = .next t ∧ t.inReset = true ∧
      t = { s with host := { s.host with strobe := t.host.strobe }, pfw := t.pfw,
                   link := { s.link with lcs := t.link.lcs, frame := t.link.frame } } ∧
      (t.link.frame = s.link.frame ∨ t.link.frame = .none))

/-- A tick with nothing waiting to be taken: every stall interval counts down, and on every tenth tick the time stamp
rises by one and every running deadline, the program limit and the start-up waits count down (R21 to R23, R66, R117).
A tick that finds expiries waiting takes them first, each as its own row would, until none is left, and then counts
(the model's choice, log 3): the entries by index, quiet before age, then the stall, the program limit, READY. -/
def Obligations.TickCountsDownEveryInterval : Prop :=
  (∀ s : State, s.atRest → s.expiry = none →
    (s.time.phase + 1 < 10 →
      exec .timebaseTick s =
        .next
          { s with
            host := { s.host with pend := s.host.pend.map fun p => { p with stallLeft := p.stallLeft - 1 } }
            time := { s.time with phase := s.time.phase + 1 } }) ∧
    (10 ≤ s.time.phase + 1 →
      ∃ t, exec .timebaseTick s = .next t ∧
        t = { s with
              host := { s.host with pend := s.host.pend.map fun p => { p with stallLeft := p.stallLeft - 1 } }
              time := { phase := 0, stamp := s.time.stamp + 1 }
              table := t.table, port := t.port, boot := t.boot } ∧
        t.table.dueQueue = s.table.dueQueue ∧ t.table.cleanList = s.table.cleanList ∧
        (∀ i : Index,
          t.table.entries[i] =
            { s.table.entries[i] with
              quiet := s.table.entries[i].quiet.map (· - 1), age := s.table.entries[i].age.map (· - 1) }) ∧
        (∀ who page limit, s.port = .programming who page limit → t.port = .programming who page (limit - 1)) ∧
        ((∀ who page limit, s.port ≠ .programming who page limit) → t.port = s.port) ∧
        (∀ n, s.boot.stage = .clock n → t.boot = { s.boot with stage := .clock (n - 1) }) ∧
        (∀ n, s.boot.stage = .ready n → t.boot = { s.boot with stage := .ready (n - 1) }) ∧
        ((∀ n, s.boot.stage ≠ .clock n) → (∀ n, s.boot.stage ≠ .ready n) → t.boot = s.boot))) ∧
  (∀ (s u : State) (n : Nat), s.inReset = false → n ≤ Config.tickBound → State.settleForTick n s = u →
    u.due = none → u.expiry = none → exec .timebaseTick s = exec .timebaseTick u) ∧
  (∀ (s u : State) (e : Expiry) (n : Nat), s.atRest → s.expiry = some e → exec (expiryRow e) s = .next u →
    State.settleForTick (n + 1) s = State.settleForTick n u) ∧
  (∀ (s : State) (i : Index), s.inReset = false →
    (s.table.entries[i].quiet = some 0 ∨ s.table.entries[i].age = some 0) →
    (∀ j : Index, j < i → s.table.entries[j].quiet ≠ some 0 ∧ s.table.entries[j].age ≠ some 0) →
    s.expiry = if s.table.entries[i].quiet = some 0 then some (.quiet i) else some (.age i)) ∧
  (∀ s : State, s.inReset = false →
    (∀ j : Index, s.table.entries[j].quiet ≠ some 0 ∧ s.table.entries[j].age ≠ some 0) →
    ((∃ p, s.host.pend = some p ∧ p.stallLeft = 0) → s.expiry = some .stall) ∧
    ((∀ p, s.host.pend = some p → p.stallLeft ≠ 0) →
      ((∃ who page, s.port = .programming who page 0) → s.expiry = some .programLimit) ∧
      ((∀ who page, s.port ≠ .programming who page 0) →
        s.expiry = if s.boot.stage = .ready 0 ∧ s.pnv.busy ≠ none then some .ready else none)))

/-! ### Host writes -/

/-- A write that arrives at an idle bus and is refused: in HOLDUP (HDROP, whatever its address), out of range (RANGE), or
in a LOCKED page (LOCKED). It ends as it arrives, leaves its flag and its error, and changes nothing else. -/
def Obligations.RefusedHostWriteLeavesOnlyItsTrace : Prop :=
  ∀ (s : State) (a : HostAddr) (d : Byte), s.atRest → s.host.bus = .idle →
    let dropped (f : Flag) (k : ErrorKind) : State :=
      { s with
        host := { bus := .ended, pend := none, readByte := none, strobe := some .write }
        events := offerError { kind := k, addr := BitVec.ofNat 24 a.toNat, stamp := s.time.stamp } (raiseFlag f s.events) }
    (s.mode = .holdup → exec (.hostWrite a d) s = .next (dropped .hdrop .hdrop)) ∧
    (s.mode = .run ∨ s.mode = .fault → s.remap.capacity * 64 ≤ a.toNat →
      exec (.hostWrite a d) s = .next (dropped .range .range)) ∧
    (s.mode = .run ∨ s.mode = .fault → a.toNat < s.remap.capacity * 64 →
      (resolvePolicy s.regions (a.toNat / 64)).policy = .locked →
      exec (.hostWrite a d) s = .next (dropped .locked .locked))

/-- A write that arrives in RUN or FAULT, is in range and not LOCKED, and that the table takes: the table's answer, two
counters, the access ended, and a start claim when the commit engine is idle and something is due (not in FAULT). -/
def Obligations.AcceptedHostWriteReachesTheTable : Prop :=
  ∀ (s : State) (a : HostAddr) (d : Byte) (t' : SettleTable) (n : Counter), s.atRest → s.host.bus = .idle →
    s.mode = .run ∨ s.mode = .fault → a.toNat < s.remap.capacity * 64 →
    (resolvePolicy s.regions (a.toNat / 64)).policy ≠ .locked →
    tableWrite s.cfg.budget s.time.stamp (a.toNat / 64) (pageOffset a) d (resolvePolicy s.regions (a.toNat / 64)) s.table
      = some (t', n) →
    exec (.hostWrite a d) s =
      .next
        { s with
          table := t'
          events := addCount n (addCount .hostWritesAccepted s.events)
          host := { bus := .ended, pend := none, readByte := none, strobe := some .write }
          ce := if s.ce.stage = .idle ∧ t'.dueQueue ≠ [] ∧ s.mode = .run then { s.ce with stage := .starting } else s.ce }

/-- A write that is held: in BOOT with the default limit, in RUN and FAULT with the write stall limit when it fails
the admission test. A read that is held: in BOOT with the default limit, on a miss in RUN or HOLDUP with the read
stall limit and a claim. A strobe outside the idle bus state is no access: the pins move, and where the other strobe is
asserted too the arrival condition is false, so that ENDED goes to IDLE (R62; how the rows say so is log 19). -/
def Obligations.HeldAccessFillsThePendingRecord : Prop :=
  (∀ (s : State) (a : HostAddr) (d : Byte), s.atRest →
    let held (limit : Nat) (w : Wait) : State :=
      { s with
        host :=
          { s.host with
            bus := .pending, strobe := some .write
            pend := some { access := .write d, addr := a, stallLimit := limit, stallLeft := limit, wait := w } } }
    (s.host.bus = .idle → s.mode = .boot → exec (.hostWrite a d) s = .next (held 50 .boot)) ∧
    (s.host.bus = .idle → s.mode = .run ∨ s.mode = .fault → a.toNat < s.remap.capacity * 64 →
      (resolvePolicy s.regions (a.toNat / 64)).policy ≠ .locked →
      (∀ i, entryFor s.table (a.toNat / 64) = some i → s.table.entries[i].state = .clean) →
      s.cfg.budget ≤ dirtyCount s.table →
      exec (.hostWrite a d) s = .next (held s.cfg.writeStall .admission)) ∧
    (s.host.bus ≠ .idle →
      exec (.hostWrite a d) s =
        .next
          { s with
            host :=
              { s.host with
                strobe := if s.host.strobe = some .read then some .both else some .write
                bus := if s.host.bus = .ended ∧ s.host.strobe = some .read then .idle else s.host.bus } })) ∧
  (∀ (s : State) (a : HostAddr), s.atRest →
    let held (limit : Nat) (w : Wait) : State :=
      { s with
        host :=
          { s.host with
            bus := .pending, strobe := some .read
            pend := some { access := .read, addr := a, stallLimit := limit, stallLeft := limit, wait := w } } }
    (s.host.bus = .idle → s.mode = .boot → exec (.hostRead a) s = .next (held 50 .boot)) ∧
    (s.host.bus = .idle → s.mode = .run ∨ s.mode = .holdup → a.toNat < s.remap.capacity * 64 →
      tableHit s.table (a.toNat / 64) (pageOffset a) = none →
      exec (.hostRead a) s = .next (held s.cfg.readStall .claim)) ∧
    (s.host.bus ≠ .idle →
      exec (.hostRead a) s =
        .next
          { s with
            host :=
              { s.host with
                strobe := if s.host.strobe = some .write then some .both else some .read
                bus := if s.host.bus = .ended ∧ s.host.strobe = some .write then .idle else s.host.bus } }))

/-- Admission (R33, R31): the lowest FREE entry, else the head of the clean list, takes the page; every other entry
and both lists' other members stay; THROUGH promotes it at once (R38). Redirtying (R34): a CLEAN entry of the page
leaves the clean list and becomes SETTLING with the one offset changed; THROUGH promotes it at once. -/
def Obligations.AdmissionAndRedirtyingOpenAnEntry : Prop :=
  (∀ (t : SettleTable) (budget page : Nat) (now : Stamp) (o : Offset) (b : Byte) (p : PolicyRecord) (i : Index),
    entryFor t page = none → dirtyCount t < budget →
    (t.entries[i].state = .free ∧ ∀ j : Index, j < i → t.entries[j].state ≠ .free) ∨
      ((∀ j : Index, t.entries[j].state ≠ .free) ∧ t.cleanList.head? = some i) →
    ∃ t', tableWrite budget now page o b p t = some (t', .admissions) ∧
      (∀ j : Index, j ≠ i → t'.entries[j] = t.entries[j]) ∧
      t'.entries[i] =
        { state := if p.policy = .through then .due else .settling
          page := some page
          image := (Vector.replicate 64 none).set o (some b)
          changed := (Vector.replicate 64 false).set o true
          quiet := some p.quiet, age := some p.age, ageStart := some now
          deadlinePassed := false, promoteAtEnd := false, syncMark := false } ∧
      t'.cleanList = (if t.entries[i].state = .free then t.cleanList else t.cleanList.tail) ∧
      t'.dueQueue = (if p.policy = .through then t.dueQueue ++ [i] else t.dueQueue)) ∧
  (∀ (t : SettleTable) (budget page : Nat) (now : Stamp) (o : Offset) (b : Byte) (p : PolicyRecord) (i : Index),
    entryFor t page = some i → t.entries[i].state = .clean → dirtyCount t < budget →
    ∃ t', tableWrite budget now page o b p t = some (t', .admissions) ∧
      (∀ j : Index, j ≠ i → t'.entries[j] = t.entries[j]) ∧
      t'.entries[i] =
        { t.entries[i] with
          state := if p.policy = .through then .due else .settling
          image := t.entries[i].image.set o (some b)
          changed := (Vector.replicate 64 false).set o true
          quiet := some p.quiet, age := some p.age, ageStart := some now } ∧
      t'.cleanList = t.cleanList.filter (· != i) ∧
      t'.dueQueue = (if p.policy = .through then t.dueQueue ++ [i] else t.dueQueue))

/-- Merging (R35 to R38): the byte and its offset join the entry; the quiet deadline restarts but in PINNED; a
SETTLING entry is promoted under THROUGH; a COMMITTING one starts its age when its changed set was empty and notes
THROUGH; a DUE or PINNED one stays where it is. No admission test. -/
def Obligations.WriteMergesIntoDirtyEntry : Prop :=
  ∀ (t : SettleTable) (budget page : Nat) (now : Stamp) (o : Offset) (b : Byte) (p : PolicyRecord) (i : Index),
    entryFor t page = some i →
    let e := t.entries[i]
    let merged : Entry := { e with image := e.image.set o (some b), changed := e.changed.set o true }
    let answers (e' : Entry) (queue : List Index) : Prop :=
      ∃ t', tableWrite budget now page o b p t = some (t', .writesMerged) ∧
        (∀ j : Index, j ≠ i → t'.entries[j] = t.entries[j]) ∧ t'.entries[i] = e' ∧
        t'.cleanList = t.cleanList ∧ t'.dueQueue = queue
    (e.state = .settling → p.policy ≠ .through → answers { merged with quiet := some p.quiet } t.dueQueue) ∧
    (e.state = .settling → p.policy = .through →
      answers { merged with quiet := some p.quiet, state := .due } (t.dueQueue ++ [i])) ∧
    (e.state = .due → answers { merged with quiet := some p.quiet } t.dueQueue) ∧
    (e.state = .committing →
      answers
        { merged with
          quiet := some p.quiet
          age := if (∀ k : Offset, e.changed[k] = false) then some p.age else e.age
          ageStart := if (∀ k : Offset, e.changed[k] = false) then some now else e.ageStart
          promoteAtEnd := e.promoteAtEnd || decide (p.policy = .through) } t.dueQueue) ∧
    (e.state = .pinned → answers merged t.dueQueue)

/-- Resolution of a page to its policy record (R51): the enabled region with the lowest index that contains the page
decides, else the default record. -/
def Obligations.LowestEnabledRegionDecides : Prop :=
  ∀ (t : RegionTable) (page : Nat),
    (∀ i : Fin 4,
      (t.region[i].first ≤ page ∧ page < t.region[i].first + t.region[i].count) →
      (∀ j : Fin 4, j < i → ¬ (t.region[j].first ≤ page ∧ page < t.region[j].first + t.region[j].count)) →
      resolvePolicy t page = t.region[i].record) ∧
    ((∀ i : Fin 4, ¬ (t.region[i].first ≤ page ∧ page < t.region[i].first + t.region[i].count)) →
      resolvePolicy t page = t.dflt)

/-- WAITING_WRITE_TAKEN_AGAIN (R40): the waiting write is resolved afresh; LOCKED drops it, otherwise the table takes it,
and the access ends. -/
def Obligations.WaitingWriteIsTakenAgain : Prop :=
  ∀ (s : State) (a : HostAddr) (d : Byte), s.due = some .waitingWriteTakenAgain → waitingWrite s.host = some (a, d) →
    let ended : HostPort :=
      { bus := if s.host.strobe = some .read ∨ s.host.strobe = some .write then .ended else .idle, pend := none, readByte := none, strobe := s.host.strobe }
    ((resolvePolicy s.regions (a.toNat / 64)).policy = .locked →
      exec .waitingWriteTakenAgain s =
        .next
          { s with
            host := ended
            events :=
              offerError { kind := .locked, addr := BitVec.ofNat 24 a.toNat, stamp := s.time.stamp }
                (raiseFlag .locked s.events) }) ∧
    (∀ t' n, (resolvePolicy s.regions (a.toNat / 64)).policy ≠ .locked →
      tableWrite s.cfg.budget s.time.stamp (a.toNat / 64) (pageOffset a) d (resolvePolicy s.regions (a.toNat / 64))
        s.table = some (t', n) →
      exec .waitingWriteTakenAgain s =
        .next
          { s with
            table := t'
            events := addCount n (addCount .hostWritesAccepted s.events)
            host := ended
            ce :=
              if s.ce.stage = .idle ∧ t'.dueQueue ≠ [] ∧ s.mode = .run then { s.ce with stage := .starting } else s.ce })

/-- PRESSURE (R41, R25): the oldest SETTLING entry, the lowest index among the oldest, is promoted; nothing else. -/
def Obligations.PressurePromotesOldestSettlingEntry : Prop :=
  ∀ s : State, s.due = some .pressure →
    ∃ i : Index, s.table.entries[i].state = .settling ∧
      (∀ j : Index, s.table.entries[j].state = .settling →
        elapsed s.time.stamp s.table.entries[j] < elapsed s.time.stamp s.table.entries[i] ∨
          (elapsed s.time.stamp s.table.entries[j] = elapsed s.time.stamp s.table.entries[i] ∧ i ≤ j)) ∧
      exec .pressure s =
        .next
          { s with
            table :=
              { s.table with
                entries := s.table.entries.set i { s.table.entries[i] with state := .due }
                dueQueue := s.table.dueQueue ++ [i] }
            ce :=
              if s.ce.stage = .idle ∧ (s.mode = .run ∨ s.mode = .holdup) then { s.ce with stage := .starting }
              else s.ce }

/-- The expiry of a quiet or an age deadline (R22 to R24): the deadline is absent afterwards; a SETTLING entry is
promoted, a COMMITTING one notes it, a DUE one does nothing more. -/
def Obligations.DeadlineExpiryActsByEntryState : Prop :=
  ∀ (s : State) (i : Index), s.atRest →
    let e := s.table.entries[i]
    let after (e' : Entry) (queue : List Index) : State :=
      { s with
        table := { s.table with entries := s.table.entries.set i e', dueQueue := queue }
        ce :=
          if s.ce.stage = .idle ∧ queue ≠ [] ∧ (s.mode = .run ∨ s.mode = .holdup) then { s.ce with stage := .starting }
          else s.ce }
    let acts (c : Instr) (e1 : Entry) : Prop :=
      (e.state = .settling → exec c s = .next (after { e1 with state := .due } (s.table.dueQueue ++ [i]))) ∧
      (e.state = .committing → exec c s = .next (after { e1 with deadlinePassed := true } s.table.dueQueue)) ∧
      (e.state = .due → exec c s = .next (after e1 s.table.dueQueue))
    (e.quiet = some 0 → acts (.quietDeadlineExpiry i) { e with quiet := none }) ∧
    (e.age = some 0 → acts (.ageDeadlineExpiry i) { e with age := none, ageStart := none })

/-! ### Host reads, stalls, the bus -/

/-- A table hit (R45, R30): the read ends with the image's byte in every mode but BOOT, both counters rise, and a
CLEAN entry moves to the tail of the clean list. A read that ends at once with the filler byte: out of range (RANGE),
or a miss in FAULT (MEMTIMEOUT, no flag). -/
def Obligations.HostReadEndsAsItArrives : Prop :=
  (∀ (s : State) (a : HostAddr) (i : Index) (b : Byte), s.atRest → s.host.bus = .idle → s.mode ≠ .boot →
    a.toNat < s.remap.capacity * 64 → entryFor s.table (a.toNat / 64) = some i →
    s.table.entries[i].image[pageOffset a] = some b →
    exec (.hostRead a) s =
      .next
        { s with
          table :=
            if s.table.entries[i].state = .clean then
              { s.table with cleanList := s.table.cleanList.filter (· != i) ++ [i] }
            else s.table
          events := addCount .hostReads (addCount .readsFromTable s.events)
          host := { bus := .ended, pend := none, readByte := some b, strobe := some .read } }) ∧
  (∀ (s : State) (a : HostAddr), s.atRest → s.host.bus = .idle →
    let ended (e : EventUnit) : State :=
      { s with
        events := addCount .hostReads e
        host := { bus := .ended, pend := none, readByte := some s.cfg.filler, strobe := some .read } }
    let error (k : ErrorKind) : CapturedError :=
      { kind := k, addr := BitVec.ofNat 24 a.toNat, stamp := s.time.stamp }
    (s.mode ≠ .boot → s.remap.capacity * 64 ≤ a.toNat →
      exec (.hostRead a) s = .next (ended (offerError (error .range) (raiseFlag .range s.events)))) ∧
    (s.mode = .fault → a.toNat < s.remap.capacity * 64 → tableHit s.table (a.toNat / 64) (pageOffset a) = none →
      exec (.hostRead a) s = .next (ended (offerError (error .memtimeout) s.events))))

/-- BYTE_READ_GRANT (R72, R8): the claimed read becomes GRANTED and the port reads one byte of the page that
resolution gives at the grant: the spare of a REMAP record of the page, or its home page. BYTE_READ_COMPLETE (R72,
R73, R113): the byte of the PNV ends the read that was granted, and is discarded when no granted read is there any
more. -/
def Obligations.ByteReadResolvesAtGrantAndEndsTheGrantedRead : Prop :=
  (∀ (s : State) (a : HostAddr) (p : PendingAccess), s.due = some .byteReadGrant → s.host.pend = some p →
    p.access = .read → p.wait = .claim → p.addr = a →
    ∃ page, exec .byteReadGrant s =
        .next { s with host := { s.host with pend := some { p with wait := .granted } },
                       port := .reading (.hostByte page (pageOffset a)) } ∧
      ((∃ m ∈ s.remap.records, m.kind = .remap ∧ m.page = a.toNat / 64 ∧ page = 34 + m.spare) ∨
        ((∀ m ∈ s.remap.records, m.kind = .remap → m.page ≠ a.toNat / 64) ∧
          page = 34 + s.remap.spares + a.toNat / 64))) ∧
  (∀ (s : State) (page : Nat) (o : Offset), s.atRest → s.port = .reading (.hostByte page o) →
    ((∃ p, s.host.pend = some p ∧ p.wait = .granted) →
      exec .byteReadComplete s =
        .next
          { s with
            port := .idle
            events := addCount .hostReads s.events
            host :=
              { bus := if s.host.strobe = some .read ∨ s.host.strobe = some .write then .ended else .idle, pend := none, strobe := s.host.strobe
                readByte :=
                  if s.host.strobe = some .read ∨ s.host.strobe = some .both then
                    some (readCell s.pnv.cells ((page * 64 + o.val) % (4096 * 2 ^ s.straps.msize.toNat * 64)))
                  else none } }) ∧
    ((∀ p, s.host.pend = some p → p.wait ≠ .granted) → exec .byteReadComplete s = .next { s with port := .idle }))

/-- STALL_EXPIRY (R66): a held write is dropped with WRSTALL and a held read ends with the filler byte and RDSTALL,
whatever it waits for; a BYTE READ in progress runs on. ARRIVAL_CONDITION_FALSE (R62, R64): ENDED goes to IDLE and the
read byte is no longer held; a pending access is neither ended nor altered. The pins (R63, R79): HWAIT# is asserted in
PENDING; HD is driven for a read while HCS# and HRD# are both asserted, undefined in PENDING and with the read's byte
after it, and never for a write or in reset. -/
def Obligations.StallExpiryAndStrobeReleaseEndTheirOwn : Prop :=
  (∀ (s : State) (p : PendingAccess), s.atRest → s.host.pend = some p → p.stallLeft = 0 →
    let error (k : ErrorKind) : CapturedError :=
      { kind := k, addr := BitVec.ofNat 24 p.addr.toNat, stamp := s.time.stamp }
    let bus : BusState := if s.host.strobe = some .read ∨ s.host.strobe = some .write then .ended else .idle
    (∀ d, p.access = .write d →
      exec .stallExpiry s =
        .next
          { s with
            events := offerError (error .wrstall) (raiseFlag .wrstall s.events)
            host := { bus := bus, pend := none, readByte := none, strobe := s.host.strobe } }) ∧
    (p.access = .read →
      exec .stallExpiry s =
        .next
          { s with
            events := addCount .hostReads (offerError (error .rdstall) (raiseFlag .rdstall s.events))
            host :=
              { bus := bus, pend := none, strobe := s.host.strobe
                readByte := if s.host.strobe = some .read ∨ s.host.strobe = some .both then some s.cfg.filler else none } })) ∧
  (∀ s : State, s.atRest →
    (s.host.bus = .ended →
      exec .arrivalConditionFalse s =
        .next { s with host := { s.host with bus := .idle, readByte := none, strobe := none } }) ∧
    (s.host.bus ≠ .ended → exec .arrivalConditionFalse s = .next { s with host := { s.host with strobe := none } })) ∧
  (∀ s : State, hwaitAsserted s = true ↔ s.host.bus = .pending) ∧
  (∀ s : State,
    (s.inReset = true ∨ (s.host.strobe ≠ some .read ∧ s.host.strobe ≠ some .both) → hostData s = .notDriven) ∧
    (s.inReset = false → s.host.strobe = some .read ∨ s.host.strobe = some .both →
      (∀ p, s.host.bus = .pending → s.host.pend = some p →
        (p.access = .read → hostData s = .undefinedValue) ∧ (∀ d, p.access = .write d → hostData s = .notDriven)) ∧
      (s.host.bus ≠ .pending →
        hostData s = match s.host.readByte with | some b => .driven b | none => .notDriven)))

/-- What the host writes it reads back (R80): where the laws of the table hold, a byte accepted in RUN is the byte that a
read of the same address, made next, is answered with. -/
def Obligations.AcceptedByteIsReadBack : Prop :=
  ∀ (s t u v : State) (a : HostAddr) (d : Byte) (t' : SettleTable) (n : Counter), s.atRest → TableLaw s →
    s.host.bus = .idle → s.mode = .run → s.host.pend = none → a.toNat < s.remap.capacity * 64 →
    (resolvePolicy s.regions (a.toNat / 64)).policy ≠ .locked →
    tableWrite s.cfg.budget s.time.stamp (a.toNat / 64) (pageOffset a) d (resolvePolicy s.regions (a.toNat / 64)) s.table
      = some (t', n) →
    exec (.hostWrite a d) s = .next t → exec .arrivalConditionFalse t = .next u → exec (.hostRead a) u = .next v →
    v.host.bus = .ended ∧ v.host.readByte = some d

/-! ### The commit engine and the PNV -/

/-- SNAPSHOT (R29, R86): the head of the queue becomes COMMITTING with its changes taken, the record is filled with the
target that resolution gives, and the fill's PAGE READ starts. -/
def Obligations.SnapshotTakesTheHeadOfTheQueue : Prop :=
  ∀ (s : State) (i : Index) (rest : List Index) (page : Nat), s.due = some .snapshot → s.table.dueQueue = i :: rest →
    s.table.entries[i].page = some page →
    let e := s.table.entries[i]
    ∃ target targetPage,
      exec .snapshot s =
        .next
          { s with
            table :=
              { s.table with
                dueQueue := rest
                entries :=
                  s.table.entries.set i
                    { e with
                      state := .committing, changed := Vector.replicate 64 false, quiet := none, age := none
                      ageStart := none, deadlinePassed := false, promoteAtEnd := false } }
            ce :=
              { stage := .filling
                record :=
                  some
                    { entry := i, page := page, buffer := e.image, snapKnown := knownSet e.image
                      changeSet := e.changed, target := target, targetPage := targetPage, trial := false
                      attempts := 0, attemptLimit := 1 + s.cfg.retryLimit } }
            port := .reading (.fill targetPage) } ∧
      ((∃ m ∈ s.remap.records, m.kind = .remap ∧ m.page = page ∧ target = .spare m.spare ∧ targetPage = 34 + m.spare) ∨
        ((∀ m ∈ s.remap.records, m.kind = .remap → m.page ≠ page) ∧ target = .home ∧
          targetPage = 34 + s.remap.spares + page))

/-- FILL_COMPLETE (R88, R91): the buffer keeps its known bytes and takes M at the others, the entry likewise; when the
buffer then equals M at all 64 offsets the commit is elided, otherwise a program claim is placed. -/
def Obligations.FillCompletesThenElidesOrClaims : Prop :=
  ∀ (s : State) (r : CommitRecord) (page : Nat), s.atRest → s.port = .reading (.fill page) → s.ce.record = some r →
    ∃ (buffer image : PartialPage) (e' : Entry),
      (∀ o : Offset, buffer[o] = some (r.buffer[o].getD (s.readPage page)[o])) ∧
      (∀ o : Offset, image[o] = some (s.table.entries[r.entry].image[o].getD (s.readPage page)[o])) ∧
      e' = { s.table.entries[r.entry] with image := image } ∧
      let filled : State :=
        { s with port := .idle, table := { s.table with entries := s.table.entries.set r.entry e' } }
      ((∀ o : Offset, buffer[o] = some (s.readPage page)[o]) →
        exec .fillComplete s =
          .next
            { filled with
              table := routeSuccess s.mode r.entry filled.table
              events := addCount .commits (addCount .commitsElided s.events)
              ce :=
                { record := none
                  stage :=
                    if (routeSuccess s.mode r.entry filled.table).dueQueue ≠ [] ∧ (s.mode = .run ∨ s.mode = .holdup)
                    then .starting else .idle } }) ∧
      ((∃ o : Offset, buffer[o] ≠ some (s.readPage page)[o]) →
        exec .fillComplete s =
          .next { filled with ce := { stage := .awaitProgram, record := some { r with buffer := buffer } } })

/-- The end of a commit in success (R43, R170): the entry becomes CLEAN at the tail of the clean list when its changed
set is empty, goes back to DUE at the tail when a flag asks for it or the mode is HOLDUP, and else is SETTLING with its
deadlines; the other entries stay. -/
def Obligations.SuccessfulCommitRoutesItsEntry : Prop :=
  ∀ (mode : Mode) (i : Index) (t : SettleTable),
    let e := t.entries[i]
    let t' := routeSuccess mode i t
    let empty := ∀ o : Offset, e.changed[o] = false
    let again := e.promoteAtEnd = true ∨ e.syncMark = true ∨ e.deadlinePassed = true ∨ mode = .holdup
    (∀ j : Index, j ≠ i → t'.entries[j] = t.entries[j]) ∧
    (empty →
      t'.entries[i] =
          { e with
            state := .clean, quiet := none, age := none, ageStart := none, syncMark := false, promoteAtEnd := false
            deadlinePassed := false } ∧
        t'.cleanList = t.cleanList ++ [i] ∧ t'.dueQueue = t.dueQueue) ∧
    (¬ empty → again →
      t'.entries[i] = { e with state := .due, promoteAtEnd := false, deadlinePassed := false } ∧
        t'.cleanList = t.cleanList ∧ t'.dueQueue = t.dueQueue ++ [i]) ∧
    (¬ empty → ¬ again →
      t'.entries[i] = { e with state := .settling, promoteAtEnd := false, deadlinePassed := false } ∧
        t'.cleanList = t.cleanList ∧ t'.dueQueue = t.dueQueue)

/-- PROGRAM_CLAIM_GRANT (R93, R115, R117): the PNV takes the buffer for the target page, attempts and PROGRAMS rise by
one, and the limit of 25 ticks starts. VERIFY_CLAIM_GRANT (R94): a PAGE READ of the target page.
The pins (R112 to R115): the idle levels with no operation; one read cycle of a BYTE READ; 64 read cycles of a PAGE
READ, 64 write cycles with the latched bytes of a PAGE PROGRAM, the offsets ascending; of the time from the 64th write
cycle until MRDY rises nothing is said (the model's choice, log 14). -/
def Obligations.GrantsProgramThenReadTheTarget : Prop :=
  (∀ (s : State) (r : CommitRecord) (p : Page), s.due = some .programClaimGrant → s.ce.record = some r →
    (∀ o : Offset, r.buffer[o] = some p[o]) →
    exec .programClaimGrant s =
      .next
        { s with
          pnv := { s.pnv with busy := some (r.targetPage, p) }
          port := .programming .commitEngine r.targetPage 25
          ce := { stage := .programming, record := some { r with attempts := r.attempts + 1 } }
          events := addCount .programs s.events }) ∧
  (∀ (s : State) (r : CommitRecord), s.due = some .verifyClaimGrant → s.ce.record = some r →
    exec .verifyClaimGrant s =
      .next { s with port := .reading (.verify r.targetPage), ce := { s.ce with stage := .verifying } }) ∧
  (∀ s : State, (s.port = .idle ∨ s.port = .faulted →
      s.pnvPins = [{ mcs := false, mrd := false, mwr := false, ma := 0, md := none }]) ∧
    ∀ page : Nat, page < 4096 * 2 ^ s.straps.msize.toNat →
      let reads (o : Offset) : PnvPins := { mcs := true, mrd := true, mwr := false, ma := page * 64 + o.val, md := none }
      (∀ o, s.port = .reading (.hostByte page o) → s.pnvPins = [reads o]) ∧
      (s.port = .reading (.fill page) ∨ s.port = .reading (.verify page) ∨ s.port = .reading (.mapVerify page) ∨
          s.port = .reading (.load page) →
        s.pnvPins = (List.finRange 64).map reads) ∧
      (∀ (who : Programmer) (limit : Nat) (latch : Page), s.port = .programming who page limit →
        s.pnv.busy = some (page, latch) →
        s.pnvPins =
          (List.finRange 64).map fun o =>
            { mcs := true, mrd := false, mwr := true, ma := page * 64 + o.val, md := some latch[o] }))

/-- PAGE_PROGRAM_COMPLETE (R111, R116): the port is idle, the claimant goes on to its verify, and of the PNV the 64 bytes
of the page programmed alone change, to what the row says the PNV left there. -/
def Obligations.ProgramCompletionWritesItsPageAlone : Prop :=
  ∀ (s : State) (who : Programmer) (page limit : Nat) (latch : Page) (res : ProgramResult), s.atRest → MemoryLaw s →
    s.port = .programming who page limit → s.pnv.busy = some (page, latch) → page < 4096 * 2 ^ s.straps.msize.toNat →
    ∃ cells,
      exec (.pageProgramComplete res) s =
        .next
          { s with
            port := .idle
            pnv := { cells := cells, busy := none }
            ce := if who = .commitEngine then { s.ce with stage := .awaitVerify } else s.ce
            store :=
              if who = .mapStore then { s.store with jobData := { s.store.jobData with step := .verify } }
              else s.store } ∧
      (∀ o : Offset, readCell cells (page * 64 + o.val) =
        match res with
        | .took => latch[o]
        | .left content => content[o]) ∧
      ∀ a : Nat, a < page * 64 ∨ page * 64 + 64 ≤ a → readCell cells a = readCell s.pnv.cells a

/-- A verify match (R95, R131): the commit ends in success; at a trial spare the REMAP change, its flag, its count, the
spares-low test and the report to the map store come with it. -/
def Obligations.VerifyMatchEndsTheCommit : Prop :=
  ∀ (s : State) (r : CommitRecord) (page : Nat), s.atRest → s.port = .reading (.verify page) → s.ce.record = some r →
    (∀ o : Offset, r.buffer[o] = some (s.readPage page)[o]) →
    let ends (u : State) : State :=
      { u with
        port := .idle
        events := addCount .commits u.events
        table := routeSuccess s.mode r.entry s.table
        ce :=
          { record := none
            stage :=
              if (routeSuccess s.mode r.entry s.table).dueQueue ≠ [] ∧ (s.mode = .run ∨ s.mode = .holdup)
              then .starting else .idle } }
    ((r.trial = false ∨ r.target = .home) → exec .verifyComplete s = .next (ends s)) ∧
    (∀ n, r.trial = true → r.target = .spare n →
      exec .verifyComplete s =
        .next (ends (State.mapChange (State.sparesLowTest
          { s with
            remap := remapChange r.page n s.remap
            events := addCount .remaps (raiseFlag .remap s.events) }))))

/-- A verify mismatch with attempts left (R96): VERIFY_FAILS, a VERIFY error with the logical page, and a new claim at
the same target with the same buffer; no flag. -/
def Obligations.VerifyMismatchRetriesTheTarget : Prop :=
  ∀ (s : State) (r : CommitRecord) (page : Nat), s.atRest → s.port = .reading (.verify page) → s.ce.record = some r →
    (∃ o : Offset, ∃ b, r.buffer[o] = some b ∧ b ≠ (s.readPage page)[o]) → r.attempts < r.attemptLimit →
    exec .verifyComplete s =
      .next
        { s with
          port := .idle
          ce := { stage := .awaitProgram, record := some r }
          events :=
            offerError { kind := .verify, addr := BitVec.ofNat 24 r.page, stamp := s.time.stamp }
              (addCount .verifyFails s.events) }

/-- The attempts at a target are exhausted (R98 to R100, R134): a trial spare is retired, the snapshot target is not; the
next free spare becomes the target with no attempts made, or the entry is pinned with SPOUT. Then a VERIFY and a SPOUT
error are offered, both with the logical page: which one an empty capture record takes is a free value (log 8), and
overflow counts the other (R199). -/
def Obligations.ExhaustedTargetLeadsToSpareOrPinning : Prop :=
  ∀ (s : State) (r : CommitRecord) (page : Nat), s.atRest → s.port = .reading (.verify page) → s.ce.record = some r →
    (∃ o : Offset, ∃ b, r.buffer[o] = some b ∧ b ≠ (s.readPage page)[o]) → r.attemptLimit ≤ r.attempts →
    let u : State := { s with port := .idle, events := addCount .verifyFails s.events }
    let given : State := u.giveUpTarget r
    (∀ n, allocate given.remap = some n →
      exec .verifyComplete s =
        .next
          { given with
            ce :=
              { stage := .awaitProgram
                record :=
                  some { r with target := .spare n, targetPage := 34 + n, trial := true, attempts := 0 } }
            events :=
              offerError { kind := .verify, addr := BitVec.ofNat 24 r.page, stamp := s.time.stamp } given.events }) ∧
    (allocate given.remap = none →
      ∃ t, exec .verifyComplete s = .next t ∧
        t =
          { given with
            table :=
              { s.table with
                entries :=
                  s.table.entries.set r.entry
                    { s.table.entries[r.entry] with
                      state := .pinned
                      changed := unionOffsets s.table.entries[r.entry].changed r.changeSet
                      quiet := none, age := none, ageStart := none, syncMark := false, promoteAtEnd := false
                      deadlinePassed := false } }
            ce :=
              { record := none
                stage :=
                  if s.table.dueQueue ≠ [] ∧ (s.mode = .run ∨ s.mode = .holdup) then .starting else .idle }
            events := t.events, choices := t.choices } ∧
        t.events.flags = (raiseFlag .spout given.events).flags ∧ t.events.enables = s.events.enables ∧
        t.events.counters = (addCount .verifyFails s.events).counters ∧
        t.events.resetLoss = s.events.resetLoss ∧ t.events.lossPending = s.events.lossPending ∧
        let error (k : ErrorKind) : CapturedError :=
          { kind := k, addr := BitVec.ofNat 24 r.page, stamp := s.time.stamp }
        (s.events.capture = none →
          (t.events.capture = some (error .verify) ∨ t.events.capture = some (error .spout)) ∧
          t.events.overflow.toNat = min 255 (s.events.overflow.toNat + 1)) ∧
        (s.events.capture ≠ none →
          t.events.capture = s.events.capture ∧
          t.events.overflow.toNat = min 255 (s.events.overflow.toNat + 2)))

/-- PROGRAM_LIMIT_EXPIRY (R118, R122, R123, R150, R152, R154, R176): the mode becomes FAULT, the port FAULTED, MFAULT is
set, the commit in progress is pinned, every sync mark is cleared, and the PNV is left as it is. A running job ends
failed and no other starts: STALE, MSTALE, its image emptied (job target, sequence and step standing: the model's choice,
log 21), and with no copy current the fresh target passes to the other copy. A SAVE in flight is reported ended failed,
SAVE_COMPLETE following as its own row in the same step (the model's choice, log 1). A read that waits for a grant ends
with the filler byte and is counted in HOST_READS. The errors offered are the MEMTIMEOUT of the page, the MSTALE of the
job, and that of the read; which of the first two an empty record takes is a free value (log 8). An access held in BOOT,
which no run finds here, is out of range (R78). -/
def Obligations.ProgramLimitExpirySendsThePartToFault : Prop :=
  ∀ (s : State) (who : Programmer) (page : Nat), s.atRest → s.port = .programming who page 0 →
    let timeout : CapturedError := { kind := .memtimeout, addr := BitVec.ofNat 24 (page * 64), stamp := s.time.stamp }
    let heldInBoot := ∃ p, s.host.pend = some p ∧ p.wait = .boot
    let readEnds := ∃ p, s.host.pend = some p ∧ p.access = .read ∧ (p.wait = .claim ∨ p.wait = .boot)
    let claimEnds := ∃ p, s.host.pend = some p ∧ p.access = .read ∧ p.wait = .claim
    ∃ t, exec .programLimitExpiry s = .next t ∧
      t =
        { s with
          mode := .fault, port := .faulted, flush := .none
          ce := { stage := .idle, record := none }
          store := t.store, events := t.events, table := t.table, host := t.host, choices := t.choices } ∧
      t.store =
        { s.store with
          jobRunning := false, persistAgain := false, startDue := false, saveRequest := .none
          saveReport := if s.store.saveRequest = .none then s.store.saveReport else some false
          status := t.store.status, jobData := t.store.jobData, freshTarget := t.store.freshTarget } ∧
      (s.store.job ≠ none →
        t.store.status = .stale ∧ t.store.jobData = { s.store.jobData with image := [] } ∧
        t.store.freshTarget =
          (if s.store.current = none then (if s.store.freshTarget = .a then .b else .a) else s.store.freshTarget)) ∧
      (s.store.job = none →
        t.store.status = s.store.status ∧ t.store.jobData = s.store.jobData ∧
        t.store.freshTarget = s.store.freshTarget) ∧
      t.events =
        { s.events with
          flags := t.events.flags, capture := t.events.capture, overflow := t.events.overflow
          counters := t.events.counters } ∧
      (∀ f : Flag, flagIn t.events.flags f = true ↔
        flagIn s.events.flags f = true ∨ f = .mfault ∨ (f = .mstale ∧ s.store.job ≠ none) ∨
          (f = .range ∧ heldInBoot)) ∧
      (readEnds → t.events.counters = (addCount .hostReads s.events).counters) ∧
      (¬ readEnds → t.events.counters = s.events.counters) ∧
      (s.events.capture ≠ none → t.events.capture = s.events.capture) ∧
      (s.events.capture = none → ¬ heldInBoot →
        (s.store.job = none → t.events.capture = some timeout) ∧
        ∀ j, s.store.job = some j →
          t.events.capture = some timeout ∨
            t.events.capture =
              some
                { kind := .mstale, stamp := s.time.stamp
                  addr := BitVec.ofNat 24 (((if j.target = .a then 0 else 17) + j.page) * 64) }) ∧
      t.events.overflow.toNat =
        min 255
          (s.events.overflow.toNat + (if s.events.capture = none then 0 else 1)
            + (if s.store.job = none then 0 else 1)
            + match s.host.pend with
              | none => 0
              | some p => if p.wait = .boot ∨ (p.access = .read ∧ p.wait = .claim) then 1 else 0) ∧
      t.table.dueQueue = s.table.dueQueue ∧ t.table.cleanList = s.table.cleanList ∧
      (∀ i : Index,
        t.table.entries[i] =
          match s.ce.record with
          | none => { s.table.entries[i] with syncMark := false }
          | some r =>
            if r.entry = i then
              { s.table.entries[i] with
                state := .pinned, changed := unionOffsets s.table.entries[i].changed r.changeSet, quiet := none
                age := none, ageStart := none, syncMark := false, promoteAtEnd := false, deadlinePassed := false }
            else { s.table.entries[i] with syncMark := false }) ∧
      (claimEnds →
        t.host =
          { bus := if s.host.strobe = some .read ∨ s.host.strobe = some .write then .ended else .idle, pend := none, strobe := s.host.strobe
            readByte := if s.host.strobe = some .read ∨ s.host.strobe = some .both then some s.cfg.filler else none }) ∧
      ((∀ p, s.host.pend = some p → p.wait = .admission ∨ p.wait = .granted) → t.host = s.host)

/-! ### The remap map -/

/-- Allocation (R9): the lowest spare index below S that no record names, or none. Giving up a target (R98, R99, R11):
the snapshot target leaves the map as it is; a trial spare gets a RETIRED record in the place of its index, the map
store is told, and every page resolves where it did. The report of a map change (R12, R130, R131, R148): PENDING; with
no job running one is started, but in FAULT (`startDue` carries the start to its own row in the same step: the model's
choice, log 1); with one running, persist-again and changed since snapshot are set. -/
def Obligations.AllocationIsLowestAndOnlyATrialSpareIsRetired : Prop :=
  (∀ r : RemapUnit,
    (∀ n, allocate r = some n ↔
      (n < r.spares ∧ (∀ m ∈ r.records, m.spare ≠ n) ∧ ∀ k < n, ∃ m ∈ r.records, m.spare = k)) ∧
    (allocate r = none ↔ ∀ n < r.spares, ∃ m ∈ r.records, m.spare = n)) ∧
  (∀ (s : State) (r : CommitRecord),
    ((r.trial = false ∨ r.target = .home) → s.giveUpTarget r = s) ∧
    (∀ n, r.trial = true → r.target = .spare n →
      s.giveUpTarget r =
          State.mapChange (State.sparesLowTest
            { s with
              remap :=
                { s.remap with
                  records := placeRecord { kind := .retired, spare := n, page := 0 } s.remap.records } }) ∧
      (s.giveUpTarget r).remap.records = placeRecord { kind := .retired, spare := n, page := 0 } s.remap.records ∧
      (s.giveUpTarget r).remap.spares = s.remap.spares ∧
      (s.giveUpTarget r).store.status = .pending ∧
      (∀ p, resolvePage (s.giveUpTarget r).remap p = resolvePage s.remap p))) ∧
  (∀ s : State,
    (s.store.job = none →
      s.mapChange =
        { s with
          store :=
            { s.store with
              status := .pending, startDue := if s.mode = .fault then s.store.startDue else true } }) ∧
    (s.store.job ≠ none →
      s.mapChange =
        { s with store := { s.store with status := .pending, persistAgain := true, changedSince := true } }))

/-- The REMAP change (R10): afterwards the page resolves to the spare and every other page where it did; one record
more; the ascending order is kept; an earlier record of the page is RETIRED in its place. The spares-low test (R133):
SPLOW is set and the report made exactly when the report state is CLEAR, the threshold is not 0 and the free count is
at or below it. -/
def Obligations.RemapChangeMovesOnePageAndSparesLowIsReportedOnce : Prop :=
  (∀ (r : RemapUnit) (page n : Nat), (r.records.map (·.spare)).Pairwise (· < ·) → (∀ m ∈ r.records, m.spare ≠ n) →
    ((r.records.filter fun m => m.kind == .remap).map (·.page)).Nodup →
    let r' := remapChange page n r
    resolvePage r' page = 34 + n ∧ (∀ q, q ≠ page → resolvePage r' q = resolvePage r q) ∧
    r'.records.length = r.records.length + 1 ∧ (r'.records.map (·.spare)).Pairwise (· < ·) ∧
    (∀ m ∈ r.records, m.kind = .remap → m.page = page →
      { kind := .retired, spare := m.spare, page := 0 } ∈ r'.records) ∧
    ∀ m ∈ r.records, ¬ (m.kind = .remap ∧ m.page = page) → m ∈ r'.records) ∧
  (∀ s : State,
    let hits := s.remap.lowReport = .clear ∧ s.remap.spares - s.remap.records.length ≤ s.cfg.sparesLow ∧
      s.cfg.sparesLow ≠ 0
    (hits →
      s.sparesLowTest =
        { s with remap := { s.remap with lowReport := .made }, events := raiseFlag .splow s.events }) ∧
    (¬ hits → s.sparesLowTest = s))

/-! ### The map store -/

/-- PERSIST_JOB_START (R151, R152): the snapshot of map and configuration is the image, with the next sequence number;
the target is the copy that is not current, or the fresh target; a SAVE that waited rides on the job.
MAP_STORE_STEP_GRANT (R153): a program of the image page at the page's place in the target copy, or the PAGE READ of
that place for verify. -/
def Obligations.JobStartsWithItsSnapshotAndTakesItsSteps : Prop :=
  (∀ s : State, s.due = some .persistJobStart →
    ∃ target,
      exec .persistJobStart s =
        .next
          { s with
            store :=
              { s.store with
                startDue := false, persistAgain := false, changedSince := false
                saveRequest := if s.store.saveRequest = .waiting then .running else s.store.saveRequest
                jobRunning := true
                jobData :=
                    { target := target, sequence := s.store.sequence + 1
                      page := if s.remap.records.length = 0 then 0 else 1, step := .program
                      image :=
                        copyPages
                          { sizeCode := s.straps.msize.toNat, sequence := s.store.sequence + 1
                            spares := s.remap.spares, records := s.remap.records, regions := s.regions
                            cfg := s.cfg } } } } ∧
      (s.store.current = some .a → target = .b) ∧ (s.store.current = some .b → target = .a) ∧
      (s.store.current = none → target = s.store.freshTarget)) ∧
  (∀ (s : State) (j : PersistJob) (p : Page), s.due = some .mapStoreStepGrant → s.store.job = some j →
    j.image[j.page]? = some p →
    let place := (if j.target = .a then 0 else 17) + j.page
    (j.step = .program →
      exec .mapStoreStepGrant s =
        .next { s with pnv := { s.pnv with busy := some (place, p) }, port := .programming .mapStore place 25 }) ∧
    (j.step = .verify → exec .mapStoreStepGrant s = .next { s with port := .reading (.mapVerify place) }))

/-- MAP_STORE_VERIFY_COMPLETE. A match (R153 to R155): a record page leads on to the next page, the header last; at
the header the job ends in success, its target is current, and another job starts when persist-again is set. A
mismatch (R154): the job ends failed at once, with STALE, MSTALE and an error with the page's byte address; the
current copy stays; another job starts when persist-again is set. The start of that job and the end of a SAVE are
carried to their own rows of the same step by `startDue` and `saveReport` (the model's choice, log 1). A job that ends
leaves the persist image empty (R154, R155) and job target, sequence and step as they were (the model's choice, log 21). -/
def Obligations.JobVerifyMovesOnSucceedsOrFails : Prop :=
  (∀ (s : State) (j : PersistJob) (page : Nat), s.atRest → s.port = .reading (.mapVerify page) → s.store.job = some j →
    j.image[j.page]? = some (s.readPage page) →
    (j.page ≠ 0 →
      exec .mapStoreVerifyComplete s =
        .next
          { s with
            port := .idle
            store :=
              { s.store with
                jobData :=
                    { j with
                      step := .program, page := if j.page + 1 < j.image.length then j.page + 1 else 0 } } }) ∧
    (j.page = 0 →
      exec .mapStoreVerifyComplete s =
        .next
          { s with
            port := .idle
            store :=
              { s.store with
                current := some j.target, sequence := j.sequence, jobRunning := false
                jobData := { j with image := [] }, persistAgain := false
                status := if s.store.changedSince = true then .pending else .saved
                startDue := s.store.startDue || s.store.persistAgain
                saveRequest := if s.store.saveRequest = .running then .none else s.store.saveRequest
                saveReport := if s.store.saveRequest = .running then some true else s.store.saveReport } })) ∧
  (∀ (s : State) (j : PersistJob) (page : Nat) (p : Page), s.atRest → s.port = .reading (.mapVerify page) →
    s.store.job = some j → j.image[j.page]? = some p → p ≠ s.readPage page →
    exec .mapStoreVerifyComplete s =
      .next
        { s with
          port := .idle
          events :=
            offerError
              { kind := .mstale, stamp := s.time.stamp
                addr := BitVec.ofNat 24 (((if j.target = .a then 0 else 17) + j.page) * 64) }
              (raiseFlag .mstale s.events)
          store :=
            { s.store with
              jobRunning := false, jobData := { j with image := [] }, status := .stale, persistAgain := false
              freshTarget :=
                if s.store.current = none then (if s.store.freshTarget = .a then .b else .a) else s.store.freshTarget
              startDue := s.store.startDue || s.store.persistAgain
              saveRequest := if s.store.saveRequest = .running then .none else s.store.saveRequest
              saveReport := if s.store.saveRequest = .running then some false else s.store.saveReport } })

/-- SAVE_COMPLETE (R150, R195): the long command field returns to NONE, and SAVEDN is set when the save succeeded.
SYNC_COMPLETE (R194): the field returns to NONE, SYNCDN is set, and the outcome is COMPLETE when no entry is PINNED,
PINNED_REMAIN when one is or the mode is FAULT. -/
def Obligations.LongCommandsComplete : Prop :=
  (∀ (s : State) (ok : Bool), s.inReset = false → s.boot.stage ≠ .clock 0 → s.link.longCommand ≠ .sync →
    s.store.saveReport = some ok →
    exec .saveComplete s =
      .next
        { s with
          link := { s.link with longCommand := .none }
          store := { s.store with saveReport := none }
          events := if ok = true then raiseFlag .savedn s.events else s.events }) ∧
  (∀ s : State, s.inReset = false → s.boot.stage ≠ .clock 0 → s.link.longCommand = .sync →
    (∀ i : Index, s.table.entries[i].syncMark = false) →
    exec .syncComplete s =
      .next
        { s with
          events := raiseFlag .syncdn s.events
          link :=
            { s.link with
              longCommand := .none
              lastSync :=
                if s.mode = .fault ∨ ∃ i : Index, s.table.entries[i].state = .pinned then .pinnedRemain
                else .complete } })

/-- A copy that the map store writes is read back as it was written: for a map and a configuration whose values lie in
their ranges, the pages of a copy are genuine and valid for the same size code and say the same map and configuration
(R151, R159, R160, R163). Its layout, for any map: the header of R145 field by field, the four bytes of record i in record
page i div 16 + 1 at 4 * (i mod 16) with 00h in the slots after the last (R146), and at the header's end the CRC of R147
over header bytes 0 to 61 and the record pages, which R147 gives bit by bit, with its check value. -/
def Obligations.StoredCopyReadsBackWhole : Prop :=
  (∀ (msize : BitVec 2) (m : StoredMap), m.sizeCode = msize.toNat → contentsValid msize m = true →
    copyValid msize (copyPages m) = true ∧ loadCopy (copyPages m) = m ∧
    (copyPages m).length = 1 + pagesToLoad (headerOf (copyPages m)) ∧
    ∀ other : BitVec 2, other ≠ msize → sizeMismatch other (copyPages m) = true) ∧
  (∀ m : StoredMap,
    let two (n : Nat) : List Byte := [BitVec.ofNat 8 (n / 256), BitVec.ofNat 8 n]
    let code (p : Policy) : Byte := match p with | .absorb => 0#8 | .through => 1#8 | .locked => 2#8
    let stands (p : Page) (first : Nat) (bytes : List Byte) : Prop := (p.toList.drop first).take bytes.length = bytes
    let n := m.records.length
    let d := m.regions.dflt
    ∃ (h : Page) (recs : List Page), copyPages m = h :: recs ∧ recs.length = (n + 15) / 16 ∧
      stands h 0 [0x47#8, 0x52#8, 0x4A#8, 0x4D#8] ∧ stands h 4 [0x01#8] ∧ stands h 5 [BitVec.ofNat 8 m.sizeCode] ∧
      stands h 6 [m.sequence.extractLsb' 24 8, m.sequence.extractLsb' 16 8, m.sequence.extractLsb' 8 8,
        m.sequence.extractLsb' 0 8] ∧
      stands h 10 (two m.spares) ∧ stands h 12 (two n) ∧ stands h 14 [code d.policy] ∧ stands h 15 (two d.quiet) ∧
      stands h 17 (two d.age) ∧ stands h 19 [BitVec.ofNat 8 m.cfg.budget] ∧ stands h 20 [BitVec.ofNat 8 m.cfg.retryLimit] ∧
      stands h 21 [BitVec.ofNat 8 m.cfg.writeStall] ∧ stands h 22 [BitVec.ofNat 8 m.cfg.readStall] ∧
      stands h 23 [m.cfg.filler] ∧ stands h 24 (two m.cfg.sparesLow) ∧
      (∀ i : Fin 4,
        let g := m.regions.region[i]
        stands h (26 + 9 * i.val)
          (two g.first ++ two g.count ++ [code g.record.policy] ++ two g.record.quiet ++ two g.record.age)) ∧
      h[62] ++ h[63] = crc16 (h.toList.take 62 ++ recs.flatMap (·.toList)) ∧
      ∀ (k : Nat) (p : Page), recs[k]? = some p → ∀ slot < 16,
        (∀ r, m.records[16 * k + slot]? = some r →
          stands p (4 * slot)
            ((match r.kind with | .remap => 1#8 | .retired => 2#8) :: BitVec.ofNat 8 r.spare :: two r.page)) ∧
        (n ≤ 16 * k + slot → stands p (4 * slot) [0#8, 0#8, 0#8, 0#8])) ∧
  (crc16 [] = 0xFFFF#16 ∧
    (∀ (bytes : List Byte) (x : Byte),
      crc16 (bytes ++ [x]) =
        [7, 6, 5, 4, 3, 2, 1, 0].foldl
          (fun (r : BitVec 16) (i : Nat) => if (x.getLsbD i ^^ r.msb) = true then (r <<< 1) ^^^ 0x1021#16 else r <<< 1) (crc16 bytes)) ∧
    crc16 [0x31#8, 0x32#8, 0x33#8, 0x34#8, 0x35#8, 0x36#8, 0x37#8, 0x38#8, 0x39#8] = 0x29B1#16)

/-- The choice between two valid copies (R162): the newer sequence number by the difference modulo 2^32; A when neither
is newer; the valid one when one is valid; none when none is. -/
def Obligations.SelectTakesTheNewerValidCopy : Prop :=
  ∀ (msize : BitVec 2) (a b : List Page),
    let sa := (loadCopy a).sequence
    let sb := (loadCopy b).sequence
    (copyValid msize a = true → copyValid msize b = false → selectCopy msize a b = some .a) ∧
    (copyValid msize a = false → copyValid msize b = true → selectCopy msize a b = some .b) ∧
    (copyValid msize a = false → copyValid msize b = false → selectCopy msize a b = none) ∧
    (copyValid msize a = true → copyValid msize b = true →
      ((sb = sa ∨ (sb - sa).toNat = 2 ^ 31 ∨ (sa - sb).toNat < 2 ^ 31) → selectCopy msize a b = some .a) ∧
      (sb ≠ sa → (sb - sa).toNat < 2 ^ 31 → selectCopy msize a b = some .b))

/-! ### Boot -/

/-- CLOCK_STAGE_END, READY_MRDY_HIGH and READY_TIMEOUT (R111, R124, R158): with MRDY high READY ends as it begins and LOAD
A starts at page 0; with MRDY low, while the PNV is in a program that a reset cut off, READY has 25 ticks. The rise of
MRDY ends that program in the page it was given, whatever the straps sampled since, and starts LOAD A (a rise in CLOCK,
which the part does not look at, is sent as PAGE_PROGRAM_COMPLETE: the model's choice, log 6). The timeout ends boot in
FAULT with MEMTIMEOUT at address 0, the remap unit unbuilt and LOSS not raised; an access held in BOOT is out of range
(R78), and which of the two errors is offered first is a free value (log 8).
LOAD_PAGE_READ_COMPLETE within the loading (R159): the page joins those of its copy, and the next record page of the
copy, or the header of copy B, is read; how many record pages are read is taken from a header with the signature and a
record count of at most 256. -/
def Obligations.BootGoesThroughClockReadyAndLoad : Prop :=
  (∀ s : State, s.inReset = false →
    (s.boot.stage = .clock 0 →
      exec .clockStageEnd s =
        .next
          (if s.pnv.busy = none then
            { s with boot := { s.boot with stage := .load .a 0 }, port := .reading (.load 0) }
          else { s with boot := { s.boot with stage := .ready 25 } })) ∧
    (∀ (n : Nat) (res : ProgramResult), s.due = none → s.boot.stage = .ready n → s.pnv.busy = none →
      exec (.readyMrdyHigh res) s =
        .next { s with boot := { s.boot with stage := .load .a 0 }, port := .reading (.load 0) }) ∧
    (∀ (n page : Nat) (latch : Page) (res : ProgramResult), s.due = none → MemoryLaw s → page < 32768 →
      s.pnv.busy = some (page, latch) →
      ∃ cells : List Host.Cell,
        (s.boot.stage = .ready n →
          exec (.readyMrdyHigh res) s =
            .next
              { s with
                pnv := { cells := cells, busy := none }
                boot := { s.boot with stage := .load .a 0 }, port := .reading (.load 0) }) ∧
        (s.boot.stage = .clock n → isProgramming s.port = false →
          exec (.pageProgramComplete res) s = .next { s with pnv := { cells := cells, busy := none } }) ∧
        (∀ o : Offset, readCell cells (page * 64 + o.val) =
          match res with
          | .took => latch[o]
          | .left content => content[o]) ∧
        ∀ a : Nat, a < page * 64 ∨ page * 64 + 64 ≤ a → readCell cells a = readCell s.pnv.cells a) ∧
    (∀ p : PendingAccess, s.due = none → s.boot.stage = .ready 0 → s.pnv.busy ≠ none → s.store.job = none →
      s.host.pend = some p → p.wait = .boot →
      ∃ t, exec .readyTimeout s = .next t ∧
        t.mode = .fault ∧ t.port = .faulted ∧ t.boot = { stage := .ended, pagesA := [], pagesB := [] } ∧
        t.pnv = s.pnv ∧ t.remap = s.remap ∧
        t.host =
          { bus := if s.host.strobe = some .read ∨ s.host.strobe = some .write then .ended else .idle
            pend := none, strobe := s.host.strobe
            readByte :=
              if p.access = .read ∧ (s.host.strobe = some .read ∨ s.host.strobe = some .both) then some s.cfg.filler
              else none } ∧
        (∀ f : Flag, flagIn t.events.flags f = (flagIn s.events.flags f || f == .mfault || f == .range)) ∧
        t.events.counters =
          (if p.access = .read then (addCount .hostReads s.events).counters else s.events.counters) ∧
        (s.events.capture = none →
          (t.events.capture = some { kind := .memtimeout, addr := 0#24, stamp := s.time.stamp } ∨
            t.events.capture =
              some { kind := .range, addr := BitVec.ofNat 24 p.addr.toNat, stamp := s.time.stamp }) ∧
          t.events.overflow = (if s.events.overflow = 255#8 then 255#8 else s.events.overflow + 1))) ∧
    (s.due = none → s.boot.stage = .ready 0 → s.pnv.busy ≠ none → s.store.job = none → s.host.pend = none →
      s.ce.record = none →
      ∃ t, exec .readyTimeout s = .next t ∧
        t =
          { s with
            mode := .fault, port := .faulted, flush := .none
            boot := { stage := .ended, pagesA := [], pagesB := [] }
            ce := { stage := .idle, record := none }
            table := t.table, store := t.store
            events :=
              raiseFlag .mfault
                (offerError { kind := .memtimeout, addr := 0#24, stamp := s.time.stamp } s.events) } ∧
        (∀ i : Index, t.table.entries[i] = { s.table.entries[i] with syncMark := false }) ∧
        t.store.job = none ∧ t.store.status = s.store.status ∧ t.store.current = s.store.current)) ∧
  (∀ (s : State) (k page : Nat) (h : Page), s.atRest → s.port = .reading (.load page) →
    (s.boot.pagesA ++ [s.readPage page])[0]? = some h →
    s.boot.stage = .load .a k →
    let count := h[12].toNat * 256 + h[13].toNat
    let n := if (h[0] = 0x47#8 ∧ h[1] = 0x52#8 ∧ h[2] = 0x4A#8 ∧ h[3] = 0x4D#8) ∧ count ≤ 256 then (count + 15) / 16
      else 0
    (k < n →
      exec .loadPageReadComplete s =
        .next
          { s with
            boot := { s.boot with stage := .load .a (k + 1), pagesA := s.boot.pagesA ++ [s.readPage page] }
            port := .reading (.load (k + 1)) }) ∧
    (n ≤ k →
      exec .loadPageReadComplete s =
        .next
          { s with
            boot := { s.boot with stage := .load .b 0, pagesA := s.boot.pagesA ++ [s.readPage page] }
            port := .reading (.load 17) })) ∧
  (∀ (s : State) (k page : Nat) (h : Page), s.atRest → s.port = .reading (.load page) →
    (s.boot.pagesB ++ [s.readPage page])[0]? = some h → s.boot.stage = .load .b k →
    let count := h[12].toNat * 256 + h[13].toNat
    h[0] = 0x47#8 → h[1] = 0x52#8 → h[2] = 0x4A#8 → h[3] = 0x4D#8 → count ≤ 256 → k < (count + 15) / 16 →
    exec .loadPageReadComplete s =
      .next
        { s with
          boot := { s.boot with stage := .load .b (k + 1), pagesB := s.boot.pagesB ++ [s.readPage page] }
          port := .reading (.load (17 + (k + 1))) })

/-- LOAD_PAGE_READ_COMPLETE at the end of LOAD B (R14, R161 to R165, R175): a size mismatch ends boot in FAULT with the map
unbuilt; a selected copy is built from; no valid copy gives a fresh map with the strap's spares. The mode is RUN, or
HOLDUP with PFW# asserted, and LOSS is raised when loss is pending. The SIZE error has address 0, or 1088 when only B is
mismatched. The access held in BOOT (R78) is taken in the mode that begins: RANGE in FAULT, HDROP for a write in HOLDUP,
otherwise as if it arrived then, with its stall interval running on. The first persist job of a fresh map (R164) and
flush done at once in HOLDUP (R175) follow as their own rows in the same step, `startDue` and FLUSHING standing until
then (the model's choice, log 1). -/
def Obligations.LastLoadSelectsAndBuilds : Prop :=
  ∀ (s : State) (k page : Nat), s.atRest → s.port = .reading (.load page) → s.boot.stage = .load .b k →
    let a := s.boot.pagesA
    let b := s.boot.pagesB ++ [s.readPage page]
    pagesToLoad (headerOf b) ≤ k →
    ∃ t, exec .loadPageReadComplete s = .next t ∧ t.pending = s.pending ∧ t.inReset = false ∧ t.straps = s.straps ∧
      t.time = s.time ∧ t.pnv = s.pnv ∧ t.pfw = s.pfw ∧ t.link = s.link ∧
      t.boot = { stage := .ended, pagesA := [], pagesB := [] } ∧
      (s.events.lossPending = true → flagIn t.events.flags .loss = true ∧ t.events.lossPending = false) ∧
      ((sizeMismatch s.straps.msize a = true ∨ sizeMismatch s.straps.msize b = true) →
        t.mode = .fault ∧ t.port = .faulted ∧ t.remap = s.remap ∧ t.regions = s.regions ∧ t.cfg = s.cfg ∧
        flagIn t.events.flags .mfault = true) ∧
      (sizeMismatch s.straps.msize a = false → sizeMismatch s.straps.msize b = false →
        t.mode = (if s.pfw = true then .holdup else .run) ∧ t.port = .idle ∧
        (s.pfw = true → t.flush = .flushing) ∧ (s.host.pend = none → t.host = s.host) ∧
        (∀ c, selectCopy s.straps.msize a b = some c →
          let m := loadCopy (if c = .a then a else b)
          t.remap =
            { built := true, spares := m.spares, capacity := 4096 * 2 ^ s.straps.msize.toNat - 34 - m.spares
              records := m.records, lowReport := .clear } ∧
          t.regions = m.regions ∧ t.cfg = m.cfg ∧
          t.store = { MapStore.reset with current := some c, sequence := m.sequence }) ∧
        (selectCopy s.straps.msize a b = none →
          t.remap =
            { built := true, spares := 32 * 2 ^ s.straps.spare.toNat, records := [], lowReport := .clear
              capacity := 4096 * 2 ^ s.straps.msize.toNat - 34 - 32 * 2 ^ s.straps.spare.toNat } ∧
          t.regions = s.regions ∧ t.cfg = s.cfg ∧ flagIn t.events.flags .fresh = true ∧
          t.store = { MapStore.reset with status := .pending, startDue := true })) ∧
      ((sizeMismatch s.straps.msize a = true ∨ sizeMismatch s.straps.msize b = true) →
        s.events.capture = none → s.store.job = none → s.host.pend = none →
        t.host = s.host ∧
        t.events.capture =
          some
            { kind := .size, stamp := s.time.stamp
              addr := if sizeMismatch s.straps.msize a = true then 0#24 else 1088#24 }) ∧
      (∀ p : PendingAccess, s.host.pend = some p → p.wait = .boot →
        let ended (byte : Option Byte) : HostPort :=
          { bus := if s.host.strobe = some .read ∨ s.host.strobe = some .write then .ended else .idle
            pend := none, strobe := s.host.strobe
            readByte := if s.host.strobe = some .read ∨ s.host.strobe = some .both then byte else none }
        let waits (w : Wait) : HostPort := { s.host with pend := some { p with wait := w } }
        let page := p.addr.toNat / 64
        let policy := resolvePolicy t.regions page
        ((sizeMismatch s.straps.msize a = true ∨ sizeMismatch s.straps.msize b = true) →
          flagIn t.events.flags .range = true ∧
          (p.access = .read → t.host = ended (some s.cfg.filler)) ∧ (∀ d, p.access = .write d → t.host = ended none)) ∧
        (sizeMismatch s.straps.msize a = false → sizeMismatch s.straps.msize b = false →
          (∀ d, p.access = .write d → s.pfw = true →
            t.host = ended none ∧ t.table = s.table ∧ flagIn t.events.flags .hdrop = true) ∧
          (∀ d, p.access = .write d → s.pfw = false → t.remap.capacity ≤ page →
            t.host = ended none ∧ t.table = s.table ∧ flagIn t.events.flags .range = true) ∧
          (∀ d, p.access = .write d → s.pfw = false → page < t.remap.capacity → policy.policy = .locked →
            t.host = ended none ∧ t.table = s.table ∧ flagIn t.events.flags .locked = true) ∧
          (∀ d, p.access = .write d → s.pfw = false → page < t.remap.capacity → policy.policy ≠ .locked →
            (∀ t' n, tableWrite t.cfg.budget s.time.stamp page (pageOffset p.addr) d policy s.table = some (t', n) →
              t.host = ended none ∧ t.table = t') ∧
            (tableWrite t.cfg.budget s.time.stamp page (pageOffset p.addr) d policy s.table = none →
              t.host = waits .admission ∧ t.table = s.table)) ∧
          (p.access = .read → t.remap.capacity ≤ page →
            t.host = ended (some t.cfg.filler) ∧ flagIn t.events.flags .range = true) ∧
          (p.access = .read → page < t.remap.capacity → tableHit s.table page (pageOffset p.addr) = none →
            t.host = waits .claim ∧ t.table = s.table)))

/-! ### Hold-up -/

/-- PFW_ASSERTED in RUN (R168, R25): HOLDUP; every SETTLING entry joins the due queue behind those already there, the
older before the younger, the lower index first among equals; a held write is dropped with HDROP; FLUSHING. In another
mode the level alone changes (R167). PFW_DEASSERTED (R173): from HOLDUP back to RUN with the flush state NONE,
everything else as the flush left it; in another mode the level alone changes (PFW_ASSERTED in HOLDUP and
PFW_DEASSERTED in RUN are rows that cannot come about: the model's choice, log 2). FLUSH_DONE (R172): the flush state
becomes DONE, HOLDDN is set. Where flush done holds already on entry (R168, step 4), FLUSH_DONE follows as its own row in
the same step and FLUSHING stands until then (the model's choice, log 1). HOLDOK is asserted exactly in DONE (R167). -/
def Obligations.PowerFailPinDrivesHoldupAndFlush : Prop :=
  (∀ s : State, s.atRest →
    (s.mode ≠ .run → exec .pfwAsserted s = .next { s with pfw := true }) ∧
    (s.mode = .run →
      ∃ (t : State) (joined : List Index), exec .pfwAsserted s = .next t ∧
        t =
          { s with
            pfw := true, mode := .holdup, flush := .flushing
            table := t.table, host := t.host, events := t.events, ce := t.ce } ∧
        t.table.dueQueue = s.table.dueQueue ++ joined ∧ t.table.cleanList = s.table.cleanList ∧ joined.Nodup ∧
        (∀ i : Index, i ∈ joined ↔ s.table.entries[i].state = .settling) ∧
        joined.Pairwise (fun i j =>
          elapsed s.time.stamp s.table.entries[j] < elapsed s.time.stamp s.table.entries[i] ∨
            (elapsed s.time.stamp s.table.entries[j] = elapsed s.time.stamp s.table.entries[i] ∧ i < j)) ∧
        (∀ i : Index,
          t.table.entries[i] =
            if s.table.entries[i].state = .settling then { s.table.entries[i] with state := .due }
            else s.table.entries[i]) ∧
        t.ce =
          (if s.ce.stage = .idle ∧ t.table.dueQueue ≠ [] then { s.ce with stage := .starting } else s.ce) ∧
        (waitingWrite s.host = none → t.host = s.host ∧ t.events = s.events) ∧
        (∀ a d, waitingWrite s.host = some (a, d) →
          t.host =
              { bus := if s.host.strobe = some .read ∨ s.host.strobe = some .write then .ended else .idle, pend := none, readByte := none
                strobe := s.host.strobe } ∧
            t.events =
              offerError { kind := .hdrop, addr := BitVec.ofNat 24 a.toNat, stamp := s.time.stamp }
                (raiseFlag .hdrop s.events)))) ∧
  (∀ s : State,
    (s.atRest → s.mode = .holdup →
      exec .pfwDeasserted s = .next { s with pfw := false, mode := .run, flush := .none }) ∧
    (s.atRest → s.mode ≠ .holdup → exec .pfwDeasserted s = .next { s with pfw := false }) ∧
    (s.due = some .flushDone →
      exec .flushDone s = .next { s with flush := .done, events := raiseFlag .holddn s.events } ∧
        s.mode = .holdup ∧ s.flush = .flushing ∧ s.store.job = none ∧ s.store.persistAgain = false ∧
        ∀ i : Index, s.table.entries[i].state = .free ∨ s.table.entries[i].state = .clean ∨
          s.table.entries[i].state = .pinned)) ∧
  (∀ s : State, holdokAsserted s = true ↔ s.flush = .done)

/-! ### The management link -/

/-- The table of R180: the code of each command, how many argument bytes it takes and how many response bytes follow its
status; no other byte names a command. FRAME_BEGIN and FRAME_END (R178, R179, R181): a fall of LCS# starts a frame in COMMAND; a rise ends it in any
frame state, with no effect on anything but the frame. LINK_BYTE and UNKNOWN_COMMAND (R179, R180): a command byte with
arguments, an argument byte that is not the last, a response byte and a further byte move the frame alone; a byte that
names no command is answered UNKNOWN at once. A byte that completes a command acts as the command's own row (log 10). LDO
(R178) carries the next response byte and 00h elsewhere, and is not driven with LCS# deasserted or in reset; 00h in an
ignored frame is log 10. FRAME_BEGIN with LCS# asserted already is a row that cannot come about, and that it changes
nothing is the model's choice (log 2). -/
def Obligations.FramesAndBytesMoveTheFrameState : Prop :=
  (let rows : List (Byte × Command × Nat × Nat) :=
    [(0x01#8, .getId, 0, 3), (0x02#8, .getStatus, 0, 19), (0x10#8, .getEvents, 0, 6), (0x11#8, .clearEvents, 2, 0),
      (0x12#8, .setEnables, 2, 0), (0x18#8, .getCapture, 0, 10), (0x19#8, .releaseCapture, 0, 0),
      (0x20#8, .getCounter, 1, 4), (0x21#8, .clearCounters, 0, 0), (0x30#8, .queryPage, 2, 7),
      (0x31#8, .readRecord, 1, 4), (0x40#8, .getConfig, 1, 9), (0x41#8, .setConfig, 3, 0), (0x42#8, .setRegion, 10, 0),
      (0x50#8, .sync, 0, 2), (0x51#8, .save, 0, 0), (0x52#8, .rearm, 0, 1)]
   (∀ r ∈ rows, commandOfCode r.1 = some r.2.1 ∧ argumentCount r.2.1 = r.2.2.1 ∧ responseCount r.2.1 = r.2.2.2) ∧
   ∀ b : Byte, (∀ r ∈ rows, r.1 ≠ b) → commandOfCode b = none) ∧
  (∀ s : State, s.atRest →
    (s.link.lcs = false →
      exec .frameBegin s = .next { s with link := { s.link with lcs := true, frame := .command } }) ∧
    (s.link.lcs = true → exec .frameBegin s = .next s) ∧
    exec .frameEnd s = .next { s with link := { s.link with lcs := false, frame := .none } }) ∧
  (∀ (s : State) (b : Byte), s.atRest →
    let framed (f : Frame) : State := { s with link := { s.link with frame := f } }
    (∀ c, s.link.frame = .command → commandOfCode b = some c → argumentCount c ≠ 0 →
      exec (.linkByte b) s = .next (framed (.arguments c []))) ∧
    (∀ c taken, s.link.frame = .arguments c taken → taken.length + 1 < argumentCount c →
      exec (.linkByte b) s = .next (framed (.arguments c (taken ++ [b])))) ∧
    (∀ x y rest, s.link.frame = .response (x :: y :: rest) →
      exec (.linkByte b) s = .next (framed (.response (y :: rest)))) ∧
    (∀ x, s.link.frame = .response [x] → exec (.linkByte b) s = .next (framed .drain)) ∧
    (s.link.frame = .drain ∨ s.link.frame = .ignored ∨ s.link.frame = .none → exec (.linkByte b) s = .next s) ∧
    (s.link.frame = .command → commandOfCode b = none →
      exec (.linkByte b) s = .next (framed (.response [0x84#8])) ∧
      exec (.unknownCommand b) s = .next (framed (.response [0x84#8])))) ∧
  (∀ (s : State) (b : Byte) (c : Command), s.atRest →
    (s.link.frame = .command → commandOfCode b = some c → argumentCount c = 0 →
      exec (.linkByte b) s = exec (commandRow c b) s) ∧
    (∀ taken, s.link.frame = .arguments c taken → taken.length + 1 = argumentCount c →
      exec (.linkByte b) s = exec (commandRow c b) s)) ∧
  (∀ s : State,
    (s.inReset = true ∨ s.link.lcs = false → ldoByte s = none) ∧
    (s.inReset = false → s.link.lcs = true →
      (∀ x rest, s.link.frame = .response (x :: rest) → ldoByte s = some x) ∧
      ((∀ x rest, s.link.frame ≠ .response (x :: rest)) → ldoByte s = some 0#8)))

/-- The status order (R182, R166): in BOOT every command but GET_ID and GET_STATUS is answered NOT_READY, and a long
command that meets another in flight COLLIDE, with 00h for every response byte and nothing changed but the frame. A command with arguments is answered so by its own
row and by the byte that completes it (log 10). -/
def Obligations.NotReadyAndCollideChangeNothing : Prop :=
  ∀ (s : State) (last : Byte) (taken : List Byte), s.atRest →
    let turned (code : Byte) (n : Nat) : State :=
      { s with link := { s.link with frame := .response (code :: List.replicate n 0#8) } }
    (s.mode = .boot → s.link.frame = .command →
      exec .getEvents s = .next (turned 0x85#8 6) ∧ exec .getCapture s = .next (turned 0x85#8 10) ∧
      exec .releaseCapture s = .next (turned 0x85#8 0) ∧ exec .clearCounters s = .next (turned 0x85#8 0) ∧
      exec .sync s = .next (turned 0x85#8 2) ∧ exec .save s = .next (turned 0x85#8 0) ∧
      exec .rearm s = .next (turned 0x85#8 1)) ∧
    (∀ c, s.mode = .boot → s.link.frame = .arguments c taken → taken.length + 1 = argumentCount c →
      exec (.linkByte last) s = .next (turned 0x85#8 (responseCount c)) ∧
        exec (commandRow c last) s = .next (turned 0x85#8 (responseCount c))) ∧
    (s.mode ≠ .boot → s.link.frame = .command → s.link.longCommand ≠ .none →
      exec .sync s = .next (turned 0x81#8 2) ∧ exec .save s = .next (turned 0x81#8 0))

/-- GET_ID and GET_STATUS (R184, R47, R166), in every mode: the three fixed bytes, and the nineteen bytes of the table of
R184; nothing changes but the frame. -/
def Obligations.IdentityAndStatusAreAnsweredInEveryMode : Prop :=
  ∀ s : State, s.atRest → s.link.frame = .command →
    let answered (bytes : List Byte) : State := { s with link := { s.link with frame := .response (0x80#8 :: bytes) } }
    let number (p : Entry → Bool) : Byte := BitVec.ofNat 8 ((List.finRange 32).countP fun i => p s.table.entries[i])
    exec .getId s = .next (answered [0x47#8, 0x40#8, 0x01#8]) ∧
    ∃ committing : Byte,
      exec .getStatus s =
        .next (answered
          ([(match s.mode with | .boot => 0#8 | .run => 1#8 | .holdup => 2#8 | .fault => 3#8),
            number (fun e => e.state = .settling || e.state = .due || e.state = .committing || e.state = .pinned),
            number (fun e => e.state ≠ .free),
            BitVec.ofNat 8 s.table.dueQueue.length,
            committing,
            BitVec.ofNat 8 ((s.remap.spares - s.remap.records.length) / 256),
            BitVec.ofNat 8 (s.remap.spares - s.remap.records.length),
            BitVec.ofNat 8 (s.remap.records.length / 256), BitVec.ofNat 8 s.remap.records.length,
            (match s.store.status with | .saved => 0#8 | .pending => 1#8 | .stale => 2#8),
            (match s.store.current with | none => 0#8 | some .a => 1#8 | some .b => 2#8)]
            ++ bytes32 s.store.sequence ++
           [(match s.link.longCommand with | .none => 0#8 | .sync => 1#8 | .save => 2#8),
            (match s.link.lastSync with | .none => 0#8 | .complete => 1#8 | .pinnedRemain => 2#8),
            number (fun e => e.state = .pinned),
            (match s.flush with | .none => 0#8 | .flushing => 1#8 | .done => 2#8)])) ∧
      (∀ i : Index, s.table.entries[i].state = .committing →
        (∀ j : Index, s.table.entries[j].state = .committing → j = i) → committing = BitVec.ofNat 8 i.val) ∧
      ((∀ i : Index, s.table.entries[i].state ≠ .committing) → committing = 0xFF#8)

/-- GET_EVENTS, CLEAR_EVENTS and SET_ENABLES (R185, R197): the words as they stand, bit 15 reading 0; exactly the
flags of the mask are cleared; the enables are replaced. GET_CAPTURE and RELEASE_CAPTURE (R186, R200): ten bytes, zero
but for the overflow count when the record is empty, the kind by its code of the table of R199; the release empties the record and the overflow count. Nothing
else changes but the frame. -/
def Obligations.EventAndCaptureCommandsActOnTheEventUnit : Prop :=
  (∀ (s : State) (hi lo : Byte), s.atRest → s.mode ≠ .boot →
    let answered (bytes : List Byte) (e : EventUnit) : State :=
      { s with events := e, link := { s.link with frame := .response (0x80#8 :: bytes) } }
    (s.link.frame = .command →
      exec .getEvents s =
        .next (answered
          [(s.events.flags.extractLsb' 8 7).setWidth 8, s.events.flags.extractLsb' 0 8,
           (s.events.enables.extractLsb' 8 7).setWidth 8, s.events.enables.extractLsb' 0 8,
           s.events.resetLoss.extractLsb' 8 8, s.events.resetLoss.extractLsb' 0 8] s.events)) ∧
    (s.link.frame = .arguments .clearEvents [hi] →
      exec (.clearEvents lo) s =
        .next (answered [] { s.events with flags := s.events.flags &&& ~~~((hi ++ lo).setWidth 15) })) ∧
    (s.link.frame = .arguments .setEnables [hi] →
      exec (.setEnables lo) s = .next (answered [] { s.events with enables := (hi ++ lo).setWidth 15 }))) ∧
  (∀ s : State, s.atRest → s.mode ≠ .boot → s.link.frame = .command →
    let answered (bytes : List Byte) (e : EventUnit) : State :=
      { s with events := e, link := { s.link with frame := .response (0x80#8 :: bytes) } }
    (s.events.capture = none →
      exec .getCapture s =
        .next (answered [0#8, 0#8, 0#8, 0#8, 0#8, 0#8, 0#8, 0#8, 0#8, s.events.overflow] s.events)) ∧
    (∀ c, s.events.capture = some c →
      exec .getCapture s =
        .next (answered
          [1#8, errorCode c.kind, c.addr.extractLsb' 16 8, c.addr.extractLsb' 8 8, c.addr.extractLsb' 0 8,
           c.stamp.extractLsb' 24 8, c.stamp.extractLsb' 16 8, c.stamp.extractLsb' 8 8, c.stamp.extractLsb' 0 8,
           s.events.overflow] s.events)) ∧
    exec .releaseCapture s = .next (answered [] { s.events with capture := none, overflow := 0#8 })) ∧
  (errorCode .rdstall = 1#8 ∧ errorCode .wrstall = 2#8 ∧ errorCode .range = 3#8 ∧ errorCode .locked = 4#8 ∧
    errorCode .hdrop = 5#8 ∧ errorCode .verify = 6#8 ∧ errorCode .spout = 7#8 ∧ errorCode .mstale = 8#8 ∧
    errorCode .memtimeout = 9#8 ∧ errorCode .size = 10#8)

/-- GET_COUNTER and CLEAR_COUNTERS (R187): index 1 to 10 reads its counter whole, any other index answers BAD_PARAM; all
ten are set to 0 in one step, and the reset-loss count, the flags and the capture record stay. -/
def Obligations.CountersAreReadByIndexAndClearedTogether : Prop :=
  ∀ (s : State) (b : Byte), s.atRest → s.mode ≠ .boot →
    let answered (bytes : List Byte) (e : EventUnit) : State :=
      { s with events := e, link := { s.link with frame := .response bytes } }
    (∀ i : Fin 10, s.link.frame = .arguments .getCounter [] → b.toNat = i.val + 1 →
      exec (.getCounter b) s = .next (answered (0x80#8 :: bytes32 s.events.counters[i]) s.events)) ∧
    (s.link.frame = .arguments .getCounter [] → b.toNat = 0 ∨ 10 < b.toNat →
      exec (.getCounter b) s = .next (answered [0x82#8, 0#8, 0#8, 0#8, 0#8] s.events)) ∧
    (counterIndex .hostWritesAccepted = 0 ∧ counterIndex .writesMerged = 1 ∧ counterIndex .admissions = 2 ∧
      counterIndex .commits = 3 ∧ counterIndex .commitsElided = 4 ∧ counterIndex .programs = 5 ∧
      counterIndex .verifyFails = 6 ∧ counterIndex .remaps = 7 ∧ counterIndex .hostReads = 8 ∧
      counterIndex .readsFromTable = 9) ∧
    (s.link.frame = .command →
      exec .clearCounters s = .next (answered [0x80#8] { s.events with counters := Vector.replicate 10 0#32 }))

/-- QUERY_PAGE (R188, R8, R18): BAD_PARAM at or above Lcap; otherwise the entry of the page, the sizes of its sets,
the physical page that resolution gives and whether a REMAP record names it. READ_RECORD (R189): record i of the list
in four bytes, REFUSED at or above the record count. Nothing changes but the frame. -/
def Obligations.PageAndRecordQueriesReport : Prop :=
  (∀ (s : State) (hi lo : Byte), s.atRest → s.mode ≠ .boot → s.link.frame = .arguments .queryPage [hi] →
    let page := hi.toNat * 256 + lo.toNat
    let answered (bytes : List Byte) : State := { s with link := { s.link with frame := .response bytes } }
    (s.remap.capacity ≤ page →
      exec (.queryPage lo) s = .next (answered (0x82#8 :: List.replicate 7 0#8))) ∧
    (page < s.remap.capacity →
      ∃ (entry : List Byte) (physical : Nat) (remapped : Byte),
        exec (.queryPage lo) s =
          .next (answered
            (0x80#8 :: (entry ++ [BitVec.ofNat 8 (physical / 256), BitVec.ofNat 8 physical, remapped]))) ∧
        ((∃ m ∈ s.remap.records, m.kind = .remap ∧ m.page = page ∧ physical = 34 + m.spare ∧ remapped = 1#8) ∨
          ((∀ m ∈ s.remap.records, m.kind = .remap → m.page ≠ page) ∧
            physical = 34 + s.remap.spares + page ∧ remapped = 0#8)) ∧
        ((∀ i : Index, s.table.entries[i].state ≠ .free → s.table.entries[i].page ≠ some page) →
          entry = [0xFF#8, 0#8, 0#8, 0#8]) ∧
        (∀ i : Index, s.table.entries[i].state ≠ .free → s.table.entries[i].page = some page →
          (∀ j : Index, j < i → s.table.entries[j].state ≠ .free → s.table.entries[j].page ≠ some page) →
          entry =
            [BitVec.ofNat 8 i.val,
             (match s.table.entries[i].state with
              | .free => 0#8 | .settling => 1#8 | .due => 2#8 | .committing => 3#8 | .clean => 4#8 | .pinned => 5#8),
             BitVec.ofNat 8 ((List.finRange 64).countP fun o => s.table.entries[i].changed[o]),
             BitVec.ofNat 8 ((List.finRange 64).countP fun o => s.table.entries[i].image[o].isSome)]))) ∧
  (∀ (s : State) (b : Byte), s.atRest → s.mode ≠ .boot → s.link.frame = .arguments .readRecord [] →
    let answered (bytes : List Byte) : State := { s with link := { s.link with frame := .response bytes } }
    (∀ m, s.remap.records[b.toNat]? = some m →
      exec (.readRecord b) s =
        .next (answered
          [0x80#8, if m.kind = .remap then 1#8 else 2#8, BitVec.ofNat 8 m.spare, BitVec.ofNat 8 (m.page / 256),
           BitVec.ofNat 8 m.page])) ∧
    (s.remap.records.length ≤ b.toNat → exec (.readRecord b) s = .next (answered [0x83#8, 0#8, 0#8, 0#8, 0#8])))

/-- GET_CONFIG (R190): the working value of items 00h to 08h in two bytes and seven zeros, the nine bytes of a region
record for 10h to 13h, BAD_PARAM for any other item; nothing changes but the frame. -/
def Obligations.GetConfigReadsTheWorkingValues : Prop :=
  ∀ (s : State) (b : Byte), s.atRest → s.mode ≠ .boot → s.link.frame = .arguments .getConfig [] →
    let answered (bytes : List Byte) : State := { s with link := { s.link with frame := .response bytes } }
    let two (n : Nat) : List Byte := [BitVec.ofNat 8 (n / 256), BitVec.ofNat 8 n]
    let reads (n : Nat) : Prop := exec (.getConfig b) s = .next (answered (0x80#8 :: (two n ++ List.replicate 7 0#8)))
    let code (p : Policy) : Nat := match p with | .absorb => 0 | .through => 1 | .locked => 2
    (b = 0x00#8 → reads s.cfg.budget) ∧ (b = 0x01#8 → reads s.cfg.retryLimit) ∧ (b = 0x02#8 → reads s.cfg.writeStall) ∧
    (b = 0x03#8 → reads s.cfg.readStall) ∧ (b = 0x04#8 → reads s.cfg.filler.toNat) ∧
    (b = 0x05#8 → reads s.cfg.sparesLow) ∧ (b = 0x06#8 → reads (code s.regions.dflt.policy)) ∧
    (b = 0x07#8 → reads s.regions.dflt.quiet) ∧ (b = 0x08#8 → reads s.regions.dflt.age) ∧
    (∀ i : Fin 4, b.toNat = 0x10 + i.val →
      let g := s.regions.region[i]
      exec (.getConfig b) s =
        .next (answered
          (0x80#8 :: (two g.first ++ two g.count ++ [BitVec.ofNat 8 (code g.record.policy)] ++ two g.record.quiet
            ++ two g.record.age)))) ∧
    ((8 < b.toNat ∧ b.toNat < 0x10) ∨ 0x13 < b.toNat →
      exec (.getConfig b) s = .next (answered (0x82#8 :: List.replicate 9 0#8)))

/-- SET_CONFIG (R190, R191): an item or a value outside its range, or a default quiet time and age limit that would cross,
answers BAD_PARAM, a budget below the dirty count REFUSED, and nothing changes but the frame; otherwise the one item takes
the value and the change is reported: PENDING, and with a job running persist-again and changed since snapshot. -/
def Obligations.SetConfigChecksThenTakesOneItem : Prop :=
  ∀ (s : State) (item hi lo : Byte), s.atRest → s.mode ≠ .boot → s.link.frame = .arguments .setConfig [item, hi] →
    let v := hi.toNat * 256 + lo.toNat
    let turned (code : Byte) : State := { s with link := { s.link with frame := .response [code] } }
    let store : MapStore :=
      if s.store.job = none then { s.store with status := .pending }
      else { s.store with status := .pending, persistAgain := true, changedSince := true }
    let taken (cfg : Settings) (dflt : PolicyRecord) (remap : RemapUnit) : State :=
      { s with
        cfg := cfg, regions := { s.regions with dflt := dflt }, remap := remap, store := store
        link := { s.link with frame := .response [0x80#8] } }
    let sets (n : Nat) (low high : Nat) (cfg : Settings) (dflt : PolicyRecord) (remap : RemapUnit) : Prop :=
      item.toNat = n →
        (low ≤ v → v ≤ high → exec (.setConfig lo) s = .next (taken cfg dflt remap)) ∧
        (v < low ∨ high < v → exec (.setConfig lo) s = .next (turned 0x82#8))
    let d := s.regions.dflt
    (item.toNat = 0 → 1 ≤ v → v ≤ 32 → v < dirtyCount s.table → exec (.setConfig lo) s = .next (turned 0x83#8)) ∧
    (dirtyCount s.table ≤ v → sets 0 1 32 { s.cfg with budget := v } d s.remap) ∧
    (item.toNat = 0 → v < 1 ∨ 32 < v → exec (.setConfig lo) s = .next (turned 0x82#8)) ∧
    sets 1 0 3 { s.cfg with retryLimit := v } d s.remap ∧
    sets 2 1 255 { s.cfg with writeStall := v } d s.remap ∧
    sets 3 1 255 { s.cfg with readStall := v } d s.remap ∧
    sets 4 0 255 { s.cfg with filler := BitVec.ofNat 8 v } d s.remap ∧
    sets 5 0 256 { s.cfg with sparesLow := v } d { s.remap with lowReport := .clear } ∧
    (∀ p, (p = .absorb ∧ v = 0 ∨ p = .through ∧ v = 1 ∨ p = .locked ∧ v = 2) →
      sets 6 0 2 s.cfg { d with policy := p } s.remap) ∧
    (item.toNat = 6 → 2 < v → exec (.setConfig lo) s = .next (turned 0x82#8)) ∧
    sets 7 1 (min 4095 d.age) s.cfg { d with quiet := v } s.remap ∧
    sets 8 (max 10 d.quiet) 65535 s.cfg { d with age := v } s.remap ∧
    (8 < item.toNat → exec (.setConfig lo) s = .next (turned 0x82#8))

/-- SET_REGION (R192, R50): the checks on index, policy, quiet, age and range; when all hold the region takes all five
fields at once and the change is reported, otherwise BAD_PARAM and nothing changes but the frame. -/
def Obligations.SetRegionReplacesOneRegionWhole : Prop :=
  ∀ (s : State) (index f1 f0 c1 c0 p q1 q0 a1 a0 : Byte), s.atRest → s.mode ≠ .boot →
    s.link.frame = .arguments .setRegion [index, f1, f0, c1, c0, p, q1, q0, a1] →
    let first := f1.toNat * 256 + f0.toNat
    let count := c1.toNat * 256 + c0.toNat
    let quiet := q1.toNat * 256 + q0.toNat
    let age := a1.toNat * 256 + a0.toNat
    let good := index.toNat < 4 ∧ p.toNat ≤ 2 ∧ 1 ≤ quiet ∧ quiet ≤ 4095 ∧ 10 ≤ age ∧ age ≤ 65535 ∧ quiet ≤ age ∧
      first + count ≤ s.remap.capacity
    (¬ good → exec (.setRegion a0) s = .next { s with link := { s.link with frame := .response [0x82#8] } }) ∧
    (∀ i : Fin 4, good → index.toNat = i.val →
      exec (.setRegion a0) s =
        .next
          { s with
            link := { s.link with frame := .response [0x80#8] }
            store :=
              if s.store.job = none then { s.store with status := .pending }
              else { s.store with status := .pending, persistAgain := true, changedSince := true }
            regions :=
              { s.regions with
                region :=
                  s.regions.region.set i
                    { first := first, count := count
                      record :=
                        { policy := if p = 0#8 then .absorb else if p = 1#8 then .through else .locked
                          quiet := quiet, age := age } } } })

/-- SYNC (R28, R193, R194): REFUSED in FAULT; otherwise every entry with changes that is not PINNED, and the COMMITTING
one, is marked, every SETTLING entry is promoted in ascending index order, and the numbers marked and PINNED are answered;
with none marked the SYNC completes in the same step. -/
def Obligations.SyncMarksAndPromotes : Prop :=
  ∀ s : State, s.atRest → s.mode ≠ .boot → s.link.frame = .command → s.link.longCommand = .none →
    (s.mode = .fault →
      exec .sync s = .next { s with link := { s.link with frame := .response [0x83#8, 0#8, 0#8] } }) ∧
    (s.mode ≠ .fault →
      let marked (i : Index) : Prop :=
        s.table.entries[i].state = .committing ∨
          (s.table.entries[i].state ≠ .pinned ∧ ∃ o : Offset, s.table.entries[i].changed[o] = true)
      let m := (List.finRange 32).countP fun i =>
        s.table.entries[i].state == .committing ||
          (s.table.entries[i].state != .pinned && (List.finRange 64).any fun o => s.table.entries[i].changed[o])
      let p := (List.finRange 32).countP fun i => s.table.entries[i].state == .pinned
      ∃ (t : State) (joined : List Index), exec .sync s = .next t ∧
        t = { s with table := t.table, ce := t.ce, link := t.link, events := t.events } ∧
        t.link.frame = .response [0x80#8, BitVec.ofNat 8 m, BitVec.ofNat 8 p] ∧ t.link.lcs = s.link.lcs ∧
        t.table.dueQueue = s.table.dueQueue ++ joined ∧ t.table.cleanList = s.table.cleanList ∧
        joined.Pairwise (· < ·) ∧ (∀ i : Index, i ∈ joined ↔ s.table.entries[i].state = .settling) ∧
        (∀ i : Index,
          (t.table.entries[i].syncMark = true ↔ marked i ∨ s.table.entries[i].syncMark = true) ∧
          t.table.entries[i] =
            { s.table.entries[i] with
              syncMark := t.table.entries[i].syncMark
              state := if s.table.entries[i].state = .settling then .due else s.table.entries[i].state }) ∧
        (m = 0 ↔ ∀ i, ¬ marked i) ∧
        (p = 0 ↔ ∀ i : Index, s.table.entries[i].state ≠ .pinned) ∧
        t.ce = (if s.ce.stage = .idle ∧ t.table.dueQueue ≠ [] then { s.ce with stage := .starting } else s.ce) ∧
        ((∃ i, marked i) →
          t.link.longCommand = .sync ∧ t.link.lastSync = s.link.lastSync ∧ t.events = s.events) ∧
        ((∀ i, ¬ marked i) →
          t.link.longCommand = .none ∧
          t.link.lastSync = (if ∃ i : Index, s.table.entries[i].state = .pinned then .pinnedRemain else .complete) ∧
          t.events = raiseFlag .syncdn s.events))

/-- SAVE (R150, R195): in RUN and HOLDUP the field becomes SAVE and a job is started, or with one running the SAVE waits
for the next; in FAULT it ends failed at once with STALE and MSTALE. DONE falls back to FLUSHING (R172). The job starts
by its own row in the same step, and `startDue` carries the start to it (the model's choice, log 1). -/
def Obligations.SaveStartsOrAwaitsAJob : Prop :=
  ∀ s : State, s.atRest → s.mode ≠ .boot → s.link.frame = .command → s.link.longCommand = .none →
    (s.mode = .fault →
      exec .save s =
        .next
          { s with
            store := { s.store with status := .stale }
            events := raiseFlag .mstale s.events
            link := { s.link with frame := .response [0x80#8] } }) ∧
    (s.mode ≠ .fault →
      exec .save s =
        .next
          { s with
            store :=
              if s.store.job = none then { s.store with startDue := true, saveRequest := .running }
              else { s.store with persistAgain := true, saveRequest := .waiting }
            flush := if s.mode = .holdup ∧ s.flush = .done then .flushing else s.flush
            link := { s.link with longCommand := .save, frame := .response [0x80#8] } })

/-- REARM (R139, R196): REFUSED in FAULT; otherwise every PINNED entry is promoted in ascending index order, its deadlines
and sets as they are, and their number is answered; nothing else changes but the start claim, and DONE, which stands
while flush done holds (R172), falls back to FLUSHING when an entry is promoted. A REARM that finds none changes nothing. -/
def Obligations.RearmPromotesEveryPinnedEntry : Prop :=
  ∀ s : State, s.atRest → s.mode ≠ .boot → s.link.frame = .command →
    (s.mode = .fault → exec .rearm s = .next { s with link := { s.link with frame := .response [0x83#8, 0#8] } }) ∧
    (s.mode ≠ .fault → (s.mode = .holdup → s.flush = .done → flushDoneHolds s = true) →
      ∃ (t : State) (joined : List Index), exec .rearm s = .next t ∧
        t =
          { s with
            table := t.table
            ce := if s.ce.stage = .idle ∧ t.table.dueQueue ≠ [] then { s.ce with stage := .starting } else s.ce
            flush := if s.mode = .holdup ∧ s.flush = .done ∧ joined ≠ [] then .flushing else s.flush
            link := { s.link with frame := .response [0x80#8, BitVec.ofNat 8 joined.length] } } ∧
        joined.Pairwise (· < ·) ∧ (∀ i : Index, i ∈ joined ↔ s.table.entries[i].state = .pinned) ∧
        t.table.dueQueue = s.table.dueQueue ++ joined ∧ t.table.cleanList = s.table.cleanList ∧
        ∀ i : Index,
          t.table.entries[i] =
            if s.table.entries[i].state = .pinned then { s.table.entries[i] with state := .due }
            else s.table.entries[i])

/-! ### The event unit -/

/-- The bits of the flag word (R197): each flag at its own. ALERT# (R198): asserted exactly while some flag and its enable are both set. A report (R197, R199, R201): it sets
its flag and no other; an error is taken into an empty record, and otherwise counted in overflow up to 255; a count
adds one to its counter alone, up to FFFFFFFFh. -/
def Obligations.AlertAndReportsFollowTheFlags : Prop :=
  (flagBit .rdstall = 0 ∧ flagBit .wrstall = 1 ∧ flagBit .range = 2 ∧ flagBit .locked = 3 ∧ flagBit .hdrop = 4 ∧
    flagBit .remap = 5 ∧ flagBit .splow = 6 ∧ flagBit .spout = 7 ∧ flagBit .mstale = 8 ∧ flagBit .mfault = 9 ∧
    flagBit .loss = 10 ∧ flagBit .syncdn = 11 ∧ flagBit .savedn = 12 ∧ flagBit .holddn = 13 ∧ flagBit .fresh = 14) ∧
  (∀ (w : BitVec 15) (f : Flag), flagIn w f = w.getLsbD (flagBit f)) ∧
  (∀ e : EventUnit, alertAsserted e = true ↔ ∃ f : Flag, flagIn e.flags f = true ∧ flagIn e.enables f = true) ∧
  (∀ (e : EventUnit) (f : Flag) (err : CapturedError) (c : Counter),
    (∀ g : Flag, flagIn (raiseFlag f e).flags g = (decide (g = f) || flagIn e.flags g)) ∧
    (raiseFlag f e) = { e with flags := (raiseFlag f e).flags } ∧
    (e.capture = none → offerError err e = { e with capture := some err }) ∧
    (e.capture ≠ none →
      offerError err e = { e with overflow := if e.overflow = 255#8 then 255#8 else e.overflow + 1 }) ∧
    (∀ i : Fin 10, (addCount c e).counters[i] =
      if i = counterIndex c then (if e.counters[i] = 0xFFFFFFFF#32 then 0xFFFFFFFF#32 else e.counters[i] + 1)
      else e.counters[i]) ∧
    addCount c e = { e with counters := (addCount c e).counters })

/-! ### Rules of the whole machine -/

/-- A flag that is set stays set through every row but CLEAR_EVENTS (or the LINK_BYTE that carries one out) and the
resets (R197). -/
def Obligations.SetFlagStaysSetUntilClearedOrReset : Prop :=
  ∀ (c : Instr) (s t : State) (f : Flag), exec c s = .next t → ¬ assertsReset c → ¬ isLinkByte c →
    (∀ b, c ≠ .clearEvents b) → flagIn s.events.flags f = true → flagIn t.events.flags f = true

/-- No record leaves the map and no RETIRED record changes until the next reset, once boot is over; and VERIFY_COMPLETE
alone changes the list (R6, R156). -/
def Obligations.MapRecordsAreNeverRemoved : Prop :=
  ∀ (c : Instr) (s t : State), exec c s = .next t → ¬ assertsReset c → s.inReset = false → s.boot.stage = .ended →
    t.remap.spares = s.remap.spares ∧ t.remap.capacity = s.remap.capacity ∧
    (c ≠ .verifyComplete → t.remap.records = s.remap.records) ∧
    ∀ m ∈ s.remap.records, ∃ m' ∈ t.remap.records, m'.spare = m.spare ∧ (m.kind = .retired → m' = m)

/-- FAULT is left by a reset alone: until then the port stays FAULTED, the PNV receives no cycle, no job starts and the
flush state stays NONE (R117, R122, R148, R176). -/
def Obligations.FaultIsLeftByResetAlone : Prop :=
  ∀ (c : Instr) (s t : State), exec c s = .next t → ¬ assertsReset c → s.inReset = false → s.mode = .fault →
    s.boot.stage = .ended → s.port = .faulted → s.store.job = none → s.flush = .none →
    t.mode = .fault ∧ t.port = .faulted ∧ t.pnv = s.pnv ∧ t.store.job = none ∧ t.flush = .none

/-- While the mode is HOLDUP no host write is accepted: HOST_WRITES_ACCEPTED does not move and none comes to wait (R68,
R169), whatever is commanded (CLEAR_COUNTERS and power-on reset, which set it to 0, apart). -/
def Obligations.NoWriteIsAcceptedInHoldup : Prop :=
  ∀ (c : Instr) (s t : State), exec c s = .next t → s.inReset = false → s.mode = .holdup → s.boot.stage = .ended →
    waitingWrite s.host = none → c ≠ .powerOnReset → c ≠ .clearCounters → ¬ isLinkByte c →
    t.events.counters[counterIndex .hostWritesAccepted] = s.events.counters[counterIndex .hostWritesAccepted] ∧
    waitingWrite t.host = none

/-! ### Invariants that every step keeps -/

/-- State.reset meets every law. -/
def Obligations.ResetMeetsEveryLaw : Prop :=
  MemoryLaw State.reset ∧ TableLaw State.reset ∧ MapLaw State.reset ∧ PersistLaw State.reset ∧ TargetLaw State.reset

/-- The PNV's array stays in its canonical form through every step. -/
def Obligations.EveryStepKeepsTheMemoryCanonical : Prop :=
  ∀ s t : State, MemoryLaw s → step s = .next t → MemoryLaw t

/-- The laws of the settle table (R18 to R20, R26, R30, R103) stay through every step. -/
def Obligations.EveryStepKeepsTheSettleTableLaws : Prop :=
  ∀ s t : State, TableLaw s → step s = .next t → TableLaw t

/-- The laws of the remap map (R5, R6) stay through every step. -/
def Obligations.EveryStepKeepsTheRemapMapLaws : Prop :=
  ∀ s t : State, TableLaw s → MapLaw s → step s = .next t → MapLaw t

/-- R87: no page of the current map copy, no spare named by a RETIRED record and no home page of a logical page with a
REMAP record is ever programmed. The laws that say so stay through every step, and where they hold, a program in progress
is at none of these pages. -/
def Obligations.CurrentMapCopyIsNeverProgrammed : Prop :=
  (∀ s t : State, TableLaw s → MapLaw s → PersistLaw s → step s = .next t → PersistLaw t) ∧
  (∀ (s : State) (who : Programmer) (page limit : Nat) (c : Copy), PersistLaw s →
    s.port = .programming who page limit → s.store.current = some c → ¬ inCopy c page) ∧
  (∀ s t : State, TableLaw s → MapLaw s → TargetLaw s → step s = .next t → TargetLaw t) ∧
  (∀ (s : State) (page limit : Nat), MapLaw s → TargetLaw s → s.port = .programming .commitEngine page limit →
    (∀ m ∈ s.remap.records, m.kind = .retired → page ≠ 34 + m.spare) ∧
    ∀ m ∈ s.remap.records, m.kind = .remap → page ≠ 34 + s.remap.spares + m.page) ∧
  ∀ (s : State) (page limit : Nat), PersistLaw s → s.port = .programming .mapStore page limit →
    (∀ m ∈ s.remap.records, page ≠ 34 + m.spare) ∧ ∀ m ∈ s.remap.records, page ≠ 34 + s.remap.spares + m.page
end

