-- ==== Sys2Proof/Laws/SettleTable.lean ====
section
/-!
SUPPORT. The settle table's shared operations: what an update, a promotion, a search and a routing leave, entry by entry
and list by list, and everything a host write can do to the table.
-/
namespace Sys2Proof.Machine

/-! ### One entry changed, promotion -/

theorem updateEntry_entries_self (t : SettleTable) (i : Index) (f : Entry → Entry) :
    (updateEntry t i f).entries[i] = f t.entries[i] := by
  show (t.entries.set i.val (f t.entries[i]) i.isLt)[i.val] = _
  rw [Vector.getElem_set_self]

theorem updateEntry_entries_of_ne (t : SettleTable) (f : Entry → Entry) {i j : Index} (h : j ≠ i) :
    (updateEntry t i f).entries[j] = t.entries[j] := by
  show (t.entries.set i.val (f t.entries[i]) i.isLt)[j.val] = t.entries[j.val]
  rw [Vector.getElem_set_ne]
  exact fun e => h (Fin.ext e.symm)

@[simp] theorem updateEntry_dueQueue (t : SettleTable) (i : Index) (f : Entry → Entry) :
    (updateEntry t i f).dueQueue = t.dueQueue := rfl
@[simp] theorem updateEntry_cleanList (t : SettleTable) (i : Index) (f : Entry → Entry) :
    (updateEntry t i f).cleanList = t.cleanList := rfl

theorem promote_entries_self (t : SettleTable) (i : Index) :
    (promote i t).entries[i] = { t.entries[i] with state := .due } :=
  updateEntry_entries_self t i fun e => { e with state := .due }

theorem promote_entries_of_ne (t : SettleTable) {i j : Index} (h : j ≠ i) : (promote i t).entries[j] = t.entries[j] :=
  updateEntry_entries_of_ne t (fun e => { e with state := .due }) h

@[simp] theorem promote_dueQueue (t : SettleTable) (i : Index) : (promote i t).dueQueue = t.dueQueue ++ [i] := rfl
@[simp] theorem promote_cleanList (t : SettleTable) (i : Index) : (promote i t).cleanList = t.cleanList := rfl

theorem mapEntries_entries (f : Entry → Entry) (t : SettleTable) (i : Index) :
    (mapEntries f t).entries[i] = f t.entries[i] := by
  show (Vector.ofFn fun i => f t.entries[i])[i.val] = _
  rw [Vector.getElem_ofFn]
@[simp] theorem mapEntries_dueQueue (f : Entry → Entry) (t : SettleTable) : (mapEntries f t).dueQueue = t.dueQueue := by
  simp only [mapEntries]
@[simp] theorem mapEntries_cleanList (f : Entry → Entry) (t : SettleTable) : (mapEntries f t).cleanList = t.cleanList := by
  simp only [mapEntries]

/-- Several promotions: each index named is DUE and the others stay, and the queue gets them in order. -/
theorem promoteAll_dueQueue (is : List Index) (t : SettleTable) :
    (promoteAll is t).dueQueue = t.dueQueue ++ is := by
  induction is generalizing t with
  | nil => simp [promoteAll]
  | cons i is ih =>
    have := ih (promote i t)
    simp only [promoteAll, List.foldl_cons] at this ⊢
    rw [this]; simp

theorem promoteAll_cleanList (is : List Index) (t : SettleTable) : (promoteAll is t).cleanList = t.cleanList := by
  induction is generalizing t with
  | nil => rfl
  | cons i is ih =>
    have := ih (promote i t)
    simp only [promoteAll, List.foldl_cons] at this ⊢
    rw [this]; rfl

theorem promoteAll_entries (is : List Index) (t : SettleTable) (j : Index) :
    (promoteAll is t).entries[j] = if j ∈ is then { t.entries[j] with state := .due } else t.entries[j] := by
  induction is generalizing t with
  | nil => rfl
  | cons i is ih =>
    have := ih (promote i t)
    simp only [promoteAll, List.foldl_cons] at this ⊢
    rw [this]
    by_cases h : j = i
    · subst h; simp only [promote_entries_self, List.mem_cons, true_or, if_true]; split <;> rfl
    · simp only [promote_entries_of_ne t h, List.mem_cons, h, false_or]

/-! ### Searches -/

theorem firstIndex_eq_some_iff {t : SettleTable} {p : Entry → Bool} {i : Index} :
    firstIndex t p = some i ↔ p t.entries[i] = true ∧ ∀ j : Index, j < i → p t.entries[j] = false := by
  unfold firstIndex
  rw [List.find?_eq_some_iff_getElem]
  constructor
  · rintro ⟨h, k, hk, e, hl⟩
    have hk' : k = i.val := by have := congrArg Fin.val e; simpa using this
    refine ⟨h, fun j hj => ?_⟩
    have := hl j.val (by rw [hk']; exact hj)
    simpa using this
  · rintro ⟨h, hl⟩
    refine ⟨h, i.val, by simp, by simp, fun j hj => ?_⟩
    have := hl ⟨j, by omega⟩ hj
    simp_all

theorem firstIndex_eq_none_iff {t : SettleTable} {p : Entry → Bool} :
    firstIndex t p = none ↔ ∀ j : Index, p t.entries[j] = false := by
  unfold firstIndex
  rw [List.find?_eq_none]
  exact ⟨fun h j => by simpa using h j (by simp), fun h j _ => by simpa using h j⟩

theorem mem_indicesWhere {t : SettleTable} {p : Entry → Bool} {i : Index} :
    i ∈ indicesWhere t p ↔ p t.entries[i] = true := by simp [indicesWhere]

theorem indicesWhere_ascending (t : SettleTable) (p : Entry → Bool) : (indicesWhere t p).Pairwise (· < ·) :=
  (List.pairwise_lt_finRange 32).sublist List.filter_sublist

theorem someEntry_iff {t : SettleTable} {p : Entry → Bool} :
    someEntry t p = true ↔ ∃ i : Index, p t.entries[i] = true := by
  unfold someEntry
  rw [List.any_eq_true]
  constructor
  · rintro ⟨e, he, hp⟩
    obtain ⟨i, hi, rfl⟩ := List.mem_iff_getElem.mp he
    exact ⟨⟨i, by simpa using hi⟩, by simpa using hp⟩
  · rintro ⟨i, hp⟩
    exact ⟨t.entries[i], by simp, hp⟩

theorem offsetsEmpty_iff {x : OffsetSet} : offsetsEmpty x = true ↔ ∀ k : Offset, x[k] = false := by
  unfold offsetsEmpty
  rw [List.all_eq_true]
  constructor
  · intro h k
    have := h x[k] (by simp)
    simpa using this
  · intro h x hx
    obtain ⟨i, hi, rfl⟩ := List.mem_iff_getElem.mp hx
    have := h ⟨i, by simpa using hi⟩
    simpa using this

/-- The entry of a page: the lowest index, not FREE, that holds the page (R18). -/
theorem entryFor_eq_some_iff {t : SettleTable} {page : Nat} {i : Index} :
    entryFor t page = some i ↔
      (t.entries[i].state ≠ .free ∧ t.entries[i].page = some page) ∧
        ∀ j : Index, j < i → ¬ (t.entries[j].state ≠ .free ∧ t.entries[j].page = some page) := by
  unfold entryFor
  rw [firstIndex_eq_some_iff]
  simp [bne_iff_ne]

theorem entryFor_eq_none_iff {t : SettleTable} {page : Nat} :
    entryFor t page = none ↔ ∀ j : Index, ¬ (t.entries[j].state ≠ .free ∧ t.entries[j].page = some page) := by
  unfold entryFor
  rw [firstIndex_eq_none_iff]
  simp [bne_iff_ne]

/-! ### What a host write does to the table (R31 to R38) -/

/-- The entry that an admission takes. -/
theorem takeSlot_cases {t t1 : SettleTable} {i : Index} (h : takeSlot t = some (i, t1)) :
    (t.entries[i].state = .free ∧ (∀ j : Index, j < i → t.entries[j].state ≠ .free) ∧ t1 = t) ∨
      ((∀ j : Index, t.entries[j].state ≠ .free) ∧ t.cleanList = i :: t1.cleanList ∧ t1.entries = t.entries ∧
        t1.dueQueue = t.dueQueue) := by
  unfold takeSlot at h
  split at h
  · rename_i k hk
    obtain ⟨rfl, rfl⟩ : k = i ∧ t = t1 := by simpa using h
    rw [firstIndex_eq_some_iff] at hk
    exact .inl ⟨by simpa [inState] using hk.1, fun j hj => by simpa [inState] using hk.2 j hj, rfl⟩
  · rename_i hk
    rw [firstIndex_eq_none_iff] at hk
    split at h
    · rename_i k rest hc
      obtain ⟨rfl, rfl⟩ : k = i ∧ ({ t with cleanList := rest } : SettleTable) = t1 := by simpa using h
      exact .inr ⟨fun j => by simpa [inState] using hk j, hc, rfl, rfl⟩
    · cases h

/-- Everything a host write that the table takes can do: an admission, a redirtying, or a merge by the entry's state. -/
theorem tableWrite_cases {budget page : Nat} {now : Stamp} {o : Offset} {b : Byte} {p : PolicyRecord}
    {t t' : SettleTable} {n : Counter} (h : tableWrite budget now page o b p t = some (t', n)) :
    (entryFor t page = none ∧ dirtyCount t < budget ∧ n = .admissions ∧
      ∃ i t1, takeSlot t = some (i, t1) ∧
        t' = promoteIfThrough p i (updateEntry t1 i fun _ => admittedEntry page o b p now)) ∨
    ∃ i, entryFor t page = some i ∧
      ((t.entries[i].state = .clean ∧ dirtyCount t < budget ∧ n = .admissions ∧
          t' = promoteIfThrough p i
            (updateEntry { t with cleanList := t.cleanList.filter (· != i) } i (redirtiedEntry o b p now))) ∨
        (n = .writesMerged ∧
          ((t.entries[i].state = .settling ∧
              t' = promoteIfThrough p i (updateEntry t i fun e => restartQuiet p (putByte o b e))) ∨
            (t.entries[i].state = .due ∧ t' = updateEntry t i fun e => restartQuiet p (putByte o b e)) ∨
            (t.entries[i].state = .committing ∧ t' = updateEntry t i (mergeCommitting o b p now)) ∨
            (t.entries[i].state = .pinned ∧ t' = updateEntry t i (putByte o b))))) := by
  unfold tableWrite at h
  split at h
  · rename_i he
    split at h
    · rename_i hd
      cases hs : takeSlot t with
      | none => simp [hs] at h
      | some v =>
        obtain ⟨rfl, rfl⟩ := by simpa [hs] using h
        exact .inl ⟨he, hd, rfl, v.1, v.2, rfl, rfl⟩
    · cases h
  · rename_i i he
    refine .inr ⟨i, he, ?_⟩
    split at h
    · rename_i hc
      split at h
      · rename_i hd
        obtain ⟨rfl, rfl⟩ := by simpa using h
        exact .inl ⟨hc, hd, rfl, rfl⟩
      · cases h
    · rename_i hc
      obtain ⟨rfl, rfl⟩ := by simpa using h
      exact .inr ⟨rfl, .inl ⟨hc, rfl⟩⟩
    · rename_i hc
      obtain ⟨rfl, rfl⟩ := by simpa using h
      exact .inr ⟨rfl, .inr (.inl ⟨hc, rfl⟩)⟩
    · rename_i hc
      obtain ⟨rfl, rfl⟩ := by simpa using h
      exact .inr ⟨rfl, .inr (.inr (.inl ⟨hc, rfl⟩))⟩
    · rename_i hc
      obtain ⟨rfl, rfl⟩ := by simpa using h
      exact .inr ⟨rfl, .inr (.inr (.inr ⟨hc, rfl⟩))⟩
    · cases h

/-- What THROUGH adds to a write (R38). -/
theorem promoteIfThrough_cases (p : PolicyRecord) (i : Index) (t : SettleTable) :
    (p.policy = .through ∧ t.entries[i].state = .settling ∧ promoteIfThrough p i t = promote i t) ∨
      (¬ (p.policy = .through ∧ t.entries[i].state = .settling) ∧ promoteIfThrough p i t = t) := by
  unfold promoteIfThrough
  split
  · rename_i h; exact .inl ⟨h.1, h.2, rfl⟩
  · rename_i h; exact .inr ⟨h, rfl⟩

/-! ### The end of a commit in success (R43, R170) -/

theorem routeSuccess_cases (mode : Mode) (i : Index) (t : SettleTable) :
    ((∀ k : Offset, t.entries[i].changed[k] = false) ∧
      routeSuccess mode i t = { updateEntry t i cleanedEntry with cleanList := t.cleanList ++ [i] }) ∨
    (¬ (∀ k : Offset, t.entries[i].changed[k] = false) ∧
      ((t.entries[i].promoteAtEnd = true ∨ t.entries[i].syncMark = true ∨ t.entries[i].deadlinePassed = true ∨
          mode = .holdup) ∧ routeSuccess mode i t = promote i (updateEntry t i clearCommitFlags) ∨
        ¬ (t.entries[i].promoteAtEnd = true ∨ t.entries[i].syncMark = true ∨ t.entries[i].deadlinePassed = true ∨
          mode = .holdup) ∧
          routeSuccess mode i t = updateEntry t i fun e => { clearCommitFlags e with state := .settling })) := by
  unfold routeSuccess
  simp only [offsetsEmpty_iff]
  split
  · rename_i h; exact .inl ⟨h, rfl⟩
  · rename_i h
    refine .inr ⟨h, ?_⟩
    split
    · rename_i h2
      simp only [Bool.or_eq_true, beq_iff_eq, or_assoc] at h2
      exact .inl ⟨h2, rfl⟩
    · rename_i h2
      simp only [Bool.or_eq_true, beq_iff_eq, or_assoc] at h2
      exact .inr ⟨h2, rfl⟩

end Sys2Proof.Machine
end

