-- ==== Sys2Proof/Laws/AgeOrder.lean ====
section
/-!
SUPPORT. The age order of R25: the list of SETTLING entries holds each once, the older before the younger, the lower
index first among equals.
-/
namespace Sys2Proof.Machine

theorem mem_placeByAge {now : Stamp} {t : SettleTable} {i k : Index} {l : List Index} :
    k ∈ placeByAge now t i l ↔ k = i ∨ k ∈ l := by
  induction l with
  | nil => simp [placeByAge]
  | cons j rest ih =>
    simp only [placeByAge]
    split
    · simp
    · simp only [List.mem_cons, ih]
      constructor
      · rintro (h | h | h) <;> simp [h]
      · rintro (h | h | h) <;> simp [h]

/-- The order of R25 between two indices. -/
def olderFirst (now : Stamp) (t : SettleTable) (i j : Index) : Prop :=
  elapsed now t.entries[j] < elapsed now t.entries[i] ∨ (elapsed now t.entries[j] = elapsed now t.entries[i] ∧ i < j)

theorem placeByAge_ordered {now : Stamp} {t : SettleTable} {i : Index} {l : List Index}
    (h : l.Pairwise (olderFirst now t)) (low : ∀ j ∈ l, i < j) : (placeByAge now t i l).Pairwise (olderFirst now t) := by
  induction l with
  | nil => simp [placeByAge]
  | cons j rest ih =>
    obtain ⟨hj, hr⟩ := List.pairwise_cons.mp h
    simp only [placeByAge]
    split
    · rename_i hle
      refine List.pairwise_cons.mpr ⟨?_, h⟩
      intro k hk
      have hik := low k hk
      have hkj : elapsed now t.entries[k] ≤ elapsed now t.entries[j] := by
        rcases List.mem_cons.mp hk with rfl | hk
        · exact Nat.le_refl _
        · rcases hj k hk with h1 | h1 <;> omega
      rcases Nat.lt_or_ge (elapsed now t.entries[k]) (elapsed now t.entries[i]) with h1 | h1
      · exact .inl h1
      · exact .inr ⟨by omega, hik⟩
    · rename_i hlt
      refine List.pairwise_cons.mpr ⟨?_, ih hr fun k hk => low k (List.mem_cons_of_mem _ hk)⟩
      intro k hk
      rcases mem_placeByAge.mp hk with rfl | hk
      · exact .inl (by omega)
      · exact hj k hk

theorem mem_settlingByAge {now : Stamp} {t : SettleTable} {i : Index} :
    i ∈ settlingByAge now t ↔ t.entries[i].state = .settling := by
  unfold settlingByAge
  have key : ∀ l : List Index, i ∈ l.foldr (placeByAge now t) [] ↔ i ∈ l := by
    intro l
    induction l with
    | nil => simp
    | cons j rest ih => simp only [List.foldr_cons, mem_placeByAge, ih, List.mem_cons]
  rw [key, mem_indicesWhere]
  simp [inState]

/-- The SETTLING entries stand in the order of R25. -/
theorem settlingByAge_ordered (now : Stamp) (t : SettleTable) : (settlingByAge now t).Pairwise (olderFirst now t) := by
  unfold settlingByAge
  have asc := indicesWhere_ascending t (inState .settling)
  generalize indicesWhere t (inState .settling) = l at asc
  have mem : ∀ (l : List Index) k, k ∈ l.foldr (placeByAge now t) [] → k ∈ l := by
    intro l
    induction l with
    | nil => simp
    | cons j rest ih =>
      intro k hk
      rcases mem_placeByAge.mp hk with rfl | hk
      · simp
      · exact List.mem_cons_of_mem _ (ih k hk)
  induction l with
  | nil => simp
  | cons j rest ih =>
    obtain ⟨hj, hr⟩ := List.pairwise_cons.mp asc
    exact placeByAge_ordered (ih hr) fun k hk => hj k (mem rest k hk)

end Sys2Proof.Machine
end

