-- ==== Sys2Proof/Laws/State.lean ====
section
/-!
SUPPORT. One lemma per field per named update of State, true by rfl, so that no proof unfolds a record update.
-/
namespace Sys2Proof.Machine

@[simp] theorem State.setPending_pending (s : State) (v : List Instr) : (s.setPending v).pending = v := rfl
@[simp] theorem State.setPending_inReset (s : State) (v : List Instr) : (s.setPending v).inReset = s.inReset := rfl
@[simp] theorem State.setPending_mode (s : State) (v : List Instr) : (s.setPending v).mode = s.mode := rfl
@[simp] theorem State.setPending_straps (s : State) (v : List Instr) : (s.setPending v).straps = s.straps := rfl
@[simp] theorem State.setPending_time (s : State) (v : List Instr) : (s.setPending v).time = s.time := rfl
@[simp] theorem State.setPending_boot (s : State) (v : List Instr) : (s.setPending v).boot = s.boot := rfl
@[simp] theorem State.setPending_host (s : State) (v : List Instr) : (s.setPending v).host = s.host := rfl
@[simp] theorem State.setPending_regions (s : State) (v : List Instr) : (s.setPending v).regions = s.regions := rfl
@[simp] theorem State.setPending_cfg (s : State) (v : List Instr) : (s.setPending v).cfg = s.cfg := rfl
@[simp] theorem State.setPending_table (s : State) (v : List Instr) : (s.setPending v).table = s.table := rfl
@[simp] theorem State.setPending_ce (s : State) (v : List Instr) : (s.setPending v).ce = s.ce := rfl
@[simp] theorem State.setPending_port (s : State) (v : List Instr) : (s.setPending v).port = s.port := rfl
@[simp] theorem State.setPending_pnv (s : State) (v : List Instr) : (s.setPending v).pnv = s.pnv := rfl
@[simp] theorem State.setPending_remap (s : State) (v : List Instr) : (s.setPending v).remap = s.remap := rfl
@[simp] theorem State.setPending_store (s : State) (v : List Instr) : (s.setPending v).store = s.store := rfl
@[simp] theorem State.setPending_flush (s : State) (v : List Instr) : (s.setPending v).flush = s.flush := rfl
@[simp] theorem State.setPending_pfw (s : State) (v : List Instr) : (s.setPending v).pfw = s.pfw := rfl
@[simp] theorem State.setPending_link (s : State) (v : List Instr) : (s.setPending v).link = s.link := rfl
@[simp] theorem State.setPending_events (s : State) (v : List Instr) : (s.setPending v).events = s.events := rfl
@[simp] theorem State.setPending_choices (s : State) (v : List Instr) : (s.setPending v).choices = s.choices := rfl

@[simp] theorem State.setInReset_pending (s : State) (v : Bool) : (s.setInReset v).pending = s.pending := rfl
@[simp] theorem State.setInReset_inReset (s : State) (v : Bool) : (s.setInReset v).inReset = v := rfl
@[simp] theorem State.setInReset_mode (s : State) (v : Bool) : (s.setInReset v).mode = s.mode := rfl
@[simp] theorem State.setInReset_straps (s : State) (v : Bool) : (s.setInReset v).straps = s.straps := rfl
@[simp] theorem State.setInReset_time (s : State) (v : Bool) : (s.setInReset v).time = s.time := rfl
@[simp] theorem State.setInReset_boot (s : State) (v : Bool) : (s.setInReset v).boot = s.boot := rfl
@[simp] theorem State.setInReset_host (s : State) (v : Bool) : (s.setInReset v).host = s.host := rfl
@[simp] theorem State.setInReset_regions (s : State) (v : Bool) : (s.setInReset v).regions = s.regions := rfl
@[simp] theorem State.setInReset_cfg (s : State) (v : Bool) : (s.setInReset v).cfg = s.cfg := rfl
@[simp] theorem State.setInReset_table (s : State) (v : Bool) : (s.setInReset v).table = s.table := rfl
@[simp] theorem State.setInReset_ce (s : State) (v : Bool) : (s.setInReset v).ce = s.ce := rfl
@[simp] theorem State.setInReset_port (s : State) (v : Bool) : (s.setInReset v).port = s.port := rfl
@[simp] theorem State.setInReset_pnv (s : State) (v : Bool) : (s.setInReset v).pnv = s.pnv := rfl
@[simp] theorem State.setInReset_remap (s : State) (v : Bool) : (s.setInReset v).remap = s.remap := rfl
@[simp] theorem State.setInReset_store (s : State) (v : Bool) : (s.setInReset v).store = s.store := rfl
@[simp] theorem State.setInReset_flush (s : State) (v : Bool) : (s.setInReset v).flush = s.flush := rfl
@[simp] theorem State.setInReset_pfw (s : State) (v : Bool) : (s.setInReset v).pfw = s.pfw := rfl
@[simp] theorem State.setInReset_link (s : State) (v : Bool) : (s.setInReset v).link = s.link := rfl
@[simp] theorem State.setInReset_events (s : State) (v : Bool) : (s.setInReset v).events = s.events := rfl
@[simp] theorem State.setInReset_choices (s : State) (v : Bool) : (s.setInReset v).choices = s.choices := rfl

@[simp] theorem State.setMode_pending (s : State) (v : Mode) : (s.setMode v).pending = s.pending := rfl
@[simp] theorem State.setMode_inReset (s : State) (v : Mode) : (s.setMode v).inReset = s.inReset := rfl
@[simp] theorem State.setMode_mode (s : State) (v : Mode) : (s.setMode v).mode = v := rfl
@[simp] theorem State.setMode_straps (s : State) (v : Mode) : (s.setMode v).straps = s.straps := rfl
@[simp] theorem State.setMode_time (s : State) (v : Mode) : (s.setMode v).time = s.time := rfl
@[simp] theorem State.setMode_boot (s : State) (v : Mode) : (s.setMode v).boot = s.boot := rfl
@[simp] theorem State.setMode_host (s : State) (v : Mode) : (s.setMode v).host = s.host := rfl
@[simp] theorem State.setMode_regions (s : State) (v : Mode) : (s.setMode v).regions = s.regions := rfl
@[simp] theorem State.setMode_cfg (s : State) (v : Mode) : (s.setMode v).cfg = s.cfg := rfl
@[simp] theorem State.setMode_table (s : State) (v : Mode) : (s.setMode v).table = s.table := rfl
@[simp] theorem State.setMode_ce (s : State) (v : Mode) : (s.setMode v).ce = s.ce := rfl
@[simp] theorem State.setMode_port (s : State) (v : Mode) : (s.setMode v).port = s.port := rfl
@[simp] theorem State.setMode_pnv (s : State) (v : Mode) : (s.setMode v).pnv = s.pnv := rfl
@[simp] theorem State.setMode_remap (s : State) (v : Mode) : (s.setMode v).remap = s.remap := rfl
@[simp] theorem State.setMode_store (s : State) (v : Mode) : (s.setMode v).store = s.store := rfl
@[simp] theorem State.setMode_flush (s : State) (v : Mode) : (s.setMode v).flush = s.flush := rfl
@[simp] theorem State.setMode_pfw (s : State) (v : Mode) : (s.setMode v).pfw = s.pfw := rfl
@[simp] theorem State.setMode_link (s : State) (v : Mode) : (s.setMode v).link = s.link := rfl
@[simp] theorem State.setMode_events (s : State) (v : Mode) : (s.setMode v).events = s.events := rfl
@[simp] theorem State.setMode_choices (s : State) (v : Mode) : (s.setMode v).choices = s.choices := rfl

@[simp] theorem State.setStraps_pending (s : State) (v : Straps) : (s.setStraps v).pending = s.pending := rfl
@[simp] theorem State.setStraps_inReset (s : State) (v : Straps) : (s.setStraps v).inReset = s.inReset := rfl
@[simp] theorem State.setStraps_mode (s : State) (v : Straps) : (s.setStraps v).mode = s.mode := rfl
@[simp] theorem State.setStraps_straps (s : State) (v : Straps) : (s.setStraps v).straps = v := rfl
@[simp] theorem State.setStraps_time (s : State) (v : Straps) : (s.setStraps v).time = s.time := rfl
@[simp] theorem State.setStraps_boot (s : State) (v : Straps) : (s.setStraps v).boot = s.boot := rfl
@[simp] theorem State.setStraps_host (s : State) (v : Straps) : (s.setStraps v).host = s.host := rfl
@[simp] theorem State.setStraps_regions (s : State) (v : Straps) : (s.setStraps v).regions = s.regions := rfl
@[simp] theorem State.setStraps_cfg (s : State) (v : Straps) : (s.setStraps v).cfg = s.cfg := rfl
@[simp] theorem State.setStraps_table (s : State) (v : Straps) : (s.setStraps v).table = s.table := rfl
@[simp] theorem State.setStraps_ce (s : State) (v : Straps) : (s.setStraps v).ce = s.ce := rfl
@[simp] theorem State.setStraps_port (s : State) (v : Straps) : (s.setStraps v).port = s.port := rfl
@[simp] theorem State.setStraps_pnv (s : State) (v : Straps) : (s.setStraps v).pnv = s.pnv := rfl
@[simp] theorem State.setStraps_remap (s : State) (v : Straps) : (s.setStraps v).remap = s.remap := rfl
@[simp] theorem State.setStraps_store (s : State) (v : Straps) : (s.setStraps v).store = s.store := rfl
@[simp] theorem State.setStraps_flush (s : State) (v : Straps) : (s.setStraps v).flush = s.flush := rfl
@[simp] theorem State.setStraps_pfw (s : State) (v : Straps) : (s.setStraps v).pfw = s.pfw := rfl
@[simp] theorem State.setStraps_link (s : State) (v : Straps) : (s.setStraps v).link = s.link := rfl
@[simp] theorem State.setStraps_events (s : State) (v : Straps) : (s.setStraps v).events = s.events := rfl
@[simp] theorem State.setStraps_choices (s : State) (v : Straps) : (s.setStraps v).choices = s.choices := rfl

@[simp] theorem State.setTime_pending (s : State) (v : Timebase) : (s.setTime v).pending = s.pending := rfl
@[simp] theorem State.setTime_inReset (s : State) (v : Timebase) : (s.setTime v).inReset = s.inReset := rfl
@[simp] theorem State.setTime_mode (s : State) (v : Timebase) : (s.setTime v).mode = s.mode := rfl
@[simp] theorem State.setTime_straps (s : State) (v : Timebase) : (s.setTime v).straps = s.straps := rfl
@[simp] theorem State.setTime_time (s : State) (v : Timebase) : (s.setTime v).time = v := rfl
@[simp] theorem State.setTime_boot (s : State) (v : Timebase) : (s.setTime v).boot = s.boot := rfl
@[simp] theorem State.setTime_host (s : State) (v : Timebase) : (s.setTime v).host = s.host := rfl
@[simp] theorem State.setTime_regions (s : State) (v : Timebase) : (s.setTime v).regions = s.regions := rfl
@[simp] theorem State.setTime_cfg (s : State) (v : Timebase) : (s.setTime v).cfg = s.cfg := rfl
@[simp] theorem State.setTime_table (s : State) (v : Timebase) : (s.setTime v).table = s.table := rfl
@[simp] theorem State.setTime_ce (s : State) (v : Timebase) : (s.setTime v).ce = s.ce := rfl
@[simp] theorem State.setTime_port (s : State) (v : Timebase) : (s.setTime v).port = s.port := rfl
@[simp] theorem State.setTime_pnv (s : State) (v : Timebase) : (s.setTime v).pnv = s.pnv := rfl
@[simp] theorem State.setTime_remap (s : State) (v : Timebase) : (s.setTime v).remap = s.remap := rfl
@[simp] theorem State.setTime_store (s : State) (v : Timebase) : (s.setTime v).store = s.store := rfl
@[simp] theorem State.setTime_flush (s : State) (v : Timebase) : (s.setTime v).flush = s.flush := rfl
@[simp] theorem State.setTime_pfw (s : State) (v : Timebase) : (s.setTime v).pfw = s.pfw := rfl
@[simp] theorem State.setTime_link (s : State) (v : Timebase) : (s.setTime v).link = s.link := rfl
@[simp] theorem State.setTime_events (s : State) (v : Timebase) : (s.setTime v).events = s.events := rfl
@[simp] theorem State.setTime_choices (s : State) (v : Timebase) : (s.setTime v).choices = s.choices := rfl

@[simp] theorem State.setBoot_pending (s : State) (v : BootLoader) : (s.setBoot v).pending = s.pending := rfl
@[simp] theorem State.setBoot_inReset (s : State) (v : BootLoader) : (s.setBoot v).inReset = s.inReset := rfl
@[simp] theorem State.setBoot_mode (s : State) (v : BootLoader) : (s.setBoot v).mode = s.mode := rfl
@[simp] theorem State.setBoot_straps (s : State) (v : BootLoader) : (s.setBoot v).straps = s.straps := rfl
@[simp] theorem State.setBoot_time (s : State) (v : BootLoader) : (s.setBoot v).time = s.time := rfl
@[simp] theorem State.setBoot_boot (s : State) (v : BootLoader) : (s.setBoot v).boot = v := rfl
@[simp] theorem State.setBoot_host (s : State) (v : BootLoader) : (s.setBoot v).host = s.host := rfl
@[simp] theorem State.setBoot_regions (s : State) (v : BootLoader) : (s.setBoot v).regions = s.regions := rfl
@[simp] theorem State.setBoot_cfg (s : State) (v : BootLoader) : (s.setBoot v).cfg = s.cfg := rfl
@[simp] theorem State.setBoot_table (s : State) (v : BootLoader) : (s.setBoot v).table = s.table := rfl
@[simp] theorem State.setBoot_ce (s : State) (v : BootLoader) : (s.setBoot v).ce = s.ce := rfl
@[simp] theorem State.setBoot_port (s : State) (v : BootLoader) : (s.setBoot v).port = s.port := rfl
@[simp] theorem State.setBoot_pnv (s : State) (v : BootLoader) : (s.setBoot v).pnv = s.pnv := rfl
@[simp] theorem State.setBoot_remap (s : State) (v : BootLoader) : (s.setBoot v).remap = s.remap := rfl
@[simp] theorem State.setBoot_store (s : State) (v : BootLoader) : (s.setBoot v).store = s.store := rfl
@[simp] theorem State.setBoot_flush (s : State) (v : BootLoader) : (s.setBoot v).flush = s.flush := rfl
@[simp] theorem State.setBoot_pfw (s : State) (v : BootLoader) : (s.setBoot v).pfw = s.pfw := rfl
@[simp] theorem State.setBoot_link (s : State) (v : BootLoader) : (s.setBoot v).link = s.link := rfl
@[simp] theorem State.setBoot_events (s : State) (v : BootLoader) : (s.setBoot v).events = s.events := rfl
@[simp] theorem State.setBoot_choices (s : State) (v : BootLoader) : (s.setBoot v).choices = s.choices := rfl

@[simp] theorem State.setHost_pending (s : State) (v : HostPort) : (s.setHost v).pending = s.pending := rfl
@[simp] theorem State.setHost_inReset (s : State) (v : HostPort) : (s.setHost v).inReset = s.inReset := rfl
@[simp] theorem State.setHost_mode (s : State) (v : HostPort) : (s.setHost v).mode = s.mode := rfl
@[simp] theorem State.setHost_straps (s : State) (v : HostPort) : (s.setHost v).straps = s.straps := rfl
@[simp] theorem State.setHost_time (s : State) (v : HostPort) : (s.setHost v).time = s.time := rfl
@[simp] theorem State.setHost_boot (s : State) (v : HostPort) : (s.setHost v).boot = s.boot := rfl
@[simp] theorem State.setHost_host (s : State) (v : HostPort) : (s.setHost v).host = v := rfl
@[simp] theorem State.setHost_regions (s : State) (v : HostPort) : (s.setHost v).regions = s.regions := rfl
@[simp] theorem State.setHost_cfg (s : State) (v : HostPort) : (s.setHost v).cfg = s.cfg := rfl
@[simp] theorem State.setHost_table (s : State) (v : HostPort) : (s.setHost v).table = s.table := rfl
@[simp] theorem State.setHost_ce (s : State) (v : HostPort) : (s.setHost v).ce = s.ce := rfl
@[simp] theorem State.setHost_port (s : State) (v : HostPort) : (s.setHost v).port = s.port := rfl
@[simp] theorem State.setHost_pnv (s : State) (v : HostPort) : (s.setHost v).pnv = s.pnv := rfl
@[simp] theorem State.setHost_remap (s : State) (v : HostPort) : (s.setHost v).remap = s.remap := rfl
@[simp] theorem State.setHost_store (s : State) (v : HostPort) : (s.setHost v).store = s.store := rfl
@[simp] theorem State.setHost_flush (s : State) (v : HostPort) : (s.setHost v).flush = s.flush := rfl
@[simp] theorem State.setHost_pfw (s : State) (v : HostPort) : (s.setHost v).pfw = s.pfw := rfl
@[simp] theorem State.setHost_link (s : State) (v : HostPort) : (s.setHost v).link = s.link := rfl
@[simp] theorem State.setHost_events (s : State) (v : HostPort) : (s.setHost v).events = s.events := rfl
@[simp] theorem State.setHost_choices (s : State) (v : HostPort) : (s.setHost v).choices = s.choices := rfl

@[simp] theorem State.setRegions_pending (s : State) (v : RegionTable) : (s.setRegions v).pending = s.pending := rfl
@[simp] theorem State.setRegions_inReset (s : State) (v : RegionTable) : (s.setRegions v).inReset = s.inReset := rfl
@[simp] theorem State.setRegions_mode (s : State) (v : RegionTable) : (s.setRegions v).mode = s.mode := rfl
@[simp] theorem State.setRegions_straps (s : State) (v : RegionTable) : (s.setRegions v).straps = s.straps := rfl
@[simp] theorem State.setRegions_time (s : State) (v : RegionTable) : (s.setRegions v).time = s.time := rfl
@[simp] theorem State.setRegions_boot (s : State) (v : RegionTable) : (s.setRegions v).boot = s.boot := rfl
@[simp] theorem State.setRegions_host (s : State) (v : RegionTable) : (s.setRegions v).host = s.host := rfl
@[simp] theorem State.setRegions_regions (s : State) (v : RegionTable) : (s.setRegions v).regions = v := rfl
@[simp] theorem State.setRegions_cfg (s : State) (v : RegionTable) : (s.setRegions v).cfg = s.cfg := rfl
@[simp] theorem State.setRegions_table (s : State) (v : RegionTable) : (s.setRegions v).table = s.table := rfl
@[simp] theorem State.setRegions_ce (s : State) (v : RegionTable) : (s.setRegions v).ce = s.ce := rfl
@[simp] theorem State.setRegions_port (s : State) (v : RegionTable) : (s.setRegions v).port = s.port := rfl
@[simp] theorem State.setRegions_pnv (s : State) (v : RegionTable) : (s.setRegions v).pnv = s.pnv := rfl
@[simp] theorem State.setRegions_remap (s : State) (v : RegionTable) : (s.setRegions v).remap = s.remap := rfl
@[simp] theorem State.setRegions_store (s : State) (v : RegionTable) : (s.setRegions v).store = s.store := rfl
@[simp] theorem State.setRegions_flush (s : State) (v : RegionTable) : (s.setRegions v).flush = s.flush := rfl
@[simp] theorem State.setRegions_pfw (s : State) (v : RegionTable) : (s.setRegions v).pfw = s.pfw := rfl
@[simp] theorem State.setRegions_link (s : State) (v : RegionTable) : (s.setRegions v).link = s.link := rfl
@[simp] theorem State.setRegions_events (s : State) (v : RegionTable) : (s.setRegions v).events = s.events := rfl
@[simp] theorem State.setRegions_choices (s : State) (v : RegionTable) : (s.setRegions v).choices = s.choices := rfl

@[simp] theorem State.setCfg_pending (s : State) (v : Settings) : (s.setCfg v).pending = s.pending := rfl
@[simp] theorem State.setCfg_inReset (s : State) (v : Settings) : (s.setCfg v).inReset = s.inReset := rfl
@[simp] theorem State.setCfg_mode (s : State) (v : Settings) : (s.setCfg v).mode = s.mode := rfl
@[simp] theorem State.setCfg_straps (s : State) (v : Settings) : (s.setCfg v).straps = s.straps := rfl
@[simp] theorem State.setCfg_time (s : State) (v : Settings) : (s.setCfg v).time = s.time := rfl
@[simp] theorem State.setCfg_boot (s : State) (v : Settings) : (s.setCfg v).boot = s.boot := rfl
@[simp] theorem State.setCfg_host (s : State) (v : Settings) : (s.setCfg v).host = s.host := rfl
@[simp] theorem State.setCfg_regions (s : State) (v : Settings) : (s.setCfg v).regions = s.regions := rfl
@[simp] theorem State.setCfg_cfg (s : State) (v : Settings) : (s.setCfg v).cfg = v := rfl
@[simp] theorem State.setCfg_table (s : State) (v : Settings) : (s.setCfg v).table = s.table := rfl
@[simp] theorem State.setCfg_ce (s : State) (v : Settings) : (s.setCfg v).ce = s.ce := rfl
@[simp] theorem State.setCfg_port (s : State) (v : Settings) : (s.setCfg v).port = s.port := rfl
@[simp] theorem State.setCfg_pnv (s : State) (v : Settings) : (s.setCfg v).pnv = s.pnv := rfl
@[simp] theorem State.setCfg_remap (s : State) (v : Settings) : (s.setCfg v).remap = s.remap := rfl
@[simp] theorem State.setCfg_store (s : State) (v : Settings) : (s.setCfg v).store = s.store := rfl
@[simp] theorem State.setCfg_flush (s : State) (v : Settings) : (s.setCfg v).flush = s.flush := rfl
@[simp] theorem State.setCfg_pfw (s : State) (v : Settings) : (s.setCfg v).pfw = s.pfw := rfl
@[simp] theorem State.setCfg_link (s : State) (v : Settings) : (s.setCfg v).link = s.link := rfl
@[simp] theorem State.setCfg_events (s : State) (v : Settings) : (s.setCfg v).events = s.events := rfl
@[simp] theorem State.setCfg_choices (s : State) (v : Settings) : (s.setCfg v).choices = s.choices := rfl

@[simp] theorem State.setTable_pending (s : State) (v : SettleTable) : (s.setTable v).pending = s.pending := rfl
@[simp] theorem State.setTable_inReset (s : State) (v : SettleTable) : (s.setTable v).inReset = s.inReset := rfl
@[simp] theorem State.setTable_mode (s : State) (v : SettleTable) : (s.setTable v).mode = s.mode := rfl
@[simp] theorem State.setTable_straps (s : State) (v : SettleTable) : (s.setTable v).straps = s.straps := rfl
@[simp] theorem State.setTable_time (s : State) (v : SettleTable) : (s.setTable v).time = s.time := rfl
@[simp] theorem State.setTable_boot (s : State) (v : SettleTable) : (s.setTable v).boot = s.boot := rfl
@[simp] theorem State.setTable_host (s : State) (v : SettleTable) : (s.setTable v).host = s.host := rfl
@[simp] theorem State.setTable_regions (s : State) (v : SettleTable) : (s.setTable v).regions = s.regions := rfl
@[simp] theorem State.setTable_cfg (s : State) (v : SettleTable) : (s.setTable v).cfg = s.cfg := rfl
@[simp] theorem State.setTable_table (s : State) (v : SettleTable) : (s.setTable v).table = v := rfl
@[simp] theorem State.setTable_ce (s : State) (v : SettleTable) : (s.setTable v).ce = s.ce := rfl
@[simp] theorem State.setTable_port (s : State) (v : SettleTable) : (s.setTable v).port = s.port := rfl
@[simp] theorem State.setTable_pnv (s : State) (v : SettleTable) : (s.setTable v).pnv = s.pnv := rfl
@[simp] theorem State.setTable_remap (s : State) (v : SettleTable) : (s.setTable v).remap = s.remap := rfl
@[simp] theorem State.setTable_store (s : State) (v : SettleTable) : (s.setTable v).store = s.store := rfl
@[simp] theorem State.setTable_flush (s : State) (v : SettleTable) : (s.setTable v).flush = s.flush := rfl
@[simp] theorem State.setTable_pfw (s : State) (v : SettleTable) : (s.setTable v).pfw = s.pfw := rfl
@[simp] theorem State.setTable_link (s : State) (v : SettleTable) : (s.setTable v).link = s.link := rfl
@[simp] theorem State.setTable_events (s : State) (v : SettleTable) : (s.setTable v).events = s.events := rfl
@[simp] theorem State.setTable_choices (s : State) (v : SettleTable) : (s.setTable v).choices = s.choices := rfl

@[simp] theorem State.setCe_pending (s : State) (v : CommitEngine) : (s.setCe v).pending = s.pending := rfl
@[simp] theorem State.setCe_inReset (s : State) (v : CommitEngine) : (s.setCe v).inReset = s.inReset := rfl
@[simp] theorem State.setCe_mode (s : State) (v : CommitEngine) : (s.setCe v).mode = s.mode := rfl
@[simp] theorem State.setCe_straps (s : State) (v : CommitEngine) : (s.setCe v).straps = s.straps := rfl
@[simp] theorem State.setCe_time (s : State) (v : CommitEngine) : (s.setCe v).time = s.time := rfl
@[simp] theorem State.setCe_boot (s : State) (v : CommitEngine) : (s.setCe v).boot = s.boot := rfl
@[simp] theorem State.setCe_host (s : State) (v : CommitEngine) : (s.setCe v).host = s.host := rfl
@[simp] theorem State.setCe_regions (s : State) (v : CommitEngine) : (s.setCe v).regions = s.regions := rfl
@[simp] theorem State.setCe_cfg (s : State) (v : CommitEngine) : (s.setCe v).cfg = s.cfg := rfl
@[simp] theorem State.setCe_table (s : State) (v : CommitEngine) : (s.setCe v).table = s.table := rfl
@[simp] theorem State.setCe_ce (s : State) (v : CommitEngine) : (s.setCe v).ce = v := rfl
@[simp] theorem State.setCe_port (s : State) (v : CommitEngine) : (s.setCe v).port = s.port := rfl
@[simp] theorem State.setCe_pnv (s : State) (v : CommitEngine) : (s.setCe v).pnv = s.pnv := rfl
@[simp] theorem State.setCe_remap (s : State) (v : CommitEngine) : (s.setCe v).remap = s.remap := rfl
@[simp] theorem State.setCe_store (s : State) (v : CommitEngine) : (s.setCe v).store = s.store := rfl
@[simp] theorem State.setCe_flush (s : State) (v : CommitEngine) : (s.setCe v).flush = s.flush := rfl
@[simp] theorem State.setCe_pfw (s : State) (v : CommitEngine) : (s.setCe v).pfw = s.pfw := rfl
@[simp] theorem State.setCe_link (s : State) (v : CommitEngine) : (s.setCe v).link = s.link := rfl
@[simp] theorem State.setCe_events (s : State) (v : CommitEngine) : (s.setCe v).events = s.events := rfl
@[simp] theorem State.setCe_choices (s : State) (v : CommitEngine) : (s.setCe v).choices = s.choices := rfl

@[simp] theorem State.setPort_pending (s : State) (v : PortState) : (s.setPort v).pending = s.pending := rfl
@[simp] theorem State.setPort_inReset (s : State) (v : PortState) : (s.setPort v).inReset = s.inReset := rfl
@[simp] theorem State.setPort_mode (s : State) (v : PortState) : (s.setPort v).mode = s.mode := rfl
@[simp] theorem State.setPort_straps (s : State) (v : PortState) : (s.setPort v).straps = s.straps := rfl
@[simp] theorem State.setPort_time (s : State) (v : PortState) : (s.setPort v).time = s.time := rfl
@[simp] theorem State.setPort_boot (s : State) (v : PortState) : (s.setPort v).boot = s.boot := rfl
@[simp] theorem State.setPort_host (s : State) (v : PortState) : (s.setPort v).host = s.host := rfl
@[simp] theorem State.setPort_regions (s : State) (v : PortState) : (s.setPort v).regions = s.regions := rfl
@[simp] theorem State.setPort_cfg (s : State) (v : PortState) : (s.setPort v).cfg = s.cfg := rfl
@[simp] theorem State.setPort_table (s : State) (v : PortState) : (s.setPort v).table = s.table := rfl
@[simp] theorem State.setPort_ce (s : State) (v : PortState) : (s.setPort v).ce = s.ce := rfl
@[simp] theorem State.setPort_port (s : State) (v : PortState) : (s.setPort v).port = v := rfl
@[simp] theorem State.setPort_pnv (s : State) (v : PortState) : (s.setPort v).pnv = s.pnv := rfl
@[simp] theorem State.setPort_remap (s : State) (v : PortState) : (s.setPort v).remap = s.remap := rfl
@[simp] theorem State.setPort_store (s : State) (v : PortState) : (s.setPort v).store = s.store := rfl
@[simp] theorem State.setPort_flush (s : State) (v : PortState) : (s.setPort v).flush = s.flush := rfl
@[simp] theorem State.setPort_pfw (s : State) (v : PortState) : (s.setPort v).pfw = s.pfw := rfl
@[simp] theorem State.setPort_link (s : State) (v : PortState) : (s.setPort v).link = s.link := rfl
@[simp] theorem State.setPort_events (s : State) (v : PortState) : (s.setPort v).events = s.events := rfl
@[simp] theorem State.setPort_choices (s : State) (v : PortState) : (s.setPort v).choices = s.choices := rfl

@[simp] theorem State.setPnv_pending (s : State) (v : Pnv) : (s.setPnv v).pending = s.pending := rfl
@[simp] theorem State.setPnv_inReset (s : State) (v : Pnv) : (s.setPnv v).inReset = s.inReset := rfl
@[simp] theorem State.setPnv_mode (s : State) (v : Pnv) : (s.setPnv v).mode = s.mode := rfl
@[simp] theorem State.setPnv_straps (s : State) (v : Pnv) : (s.setPnv v).straps = s.straps := rfl
@[simp] theorem State.setPnv_time (s : State) (v : Pnv) : (s.setPnv v).time = s.time := rfl
@[simp] theorem State.setPnv_boot (s : State) (v : Pnv) : (s.setPnv v).boot = s.boot := rfl
@[simp] theorem State.setPnv_host (s : State) (v : Pnv) : (s.setPnv v).host = s.host := rfl
@[simp] theorem State.setPnv_regions (s : State) (v : Pnv) : (s.setPnv v).regions = s.regions := rfl
@[simp] theorem State.setPnv_cfg (s : State) (v : Pnv) : (s.setPnv v).cfg = s.cfg := rfl
@[simp] theorem State.setPnv_table (s : State) (v : Pnv) : (s.setPnv v).table = s.table := rfl
@[simp] theorem State.setPnv_ce (s : State) (v : Pnv) : (s.setPnv v).ce = s.ce := rfl
@[simp] theorem State.setPnv_port (s : State) (v : Pnv) : (s.setPnv v).port = s.port := rfl
@[simp] theorem State.setPnv_pnv (s : State) (v : Pnv) : (s.setPnv v).pnv = v := rfl
@[simp] theorem State.setPnv_remap (s : State) (v : Pnv) : (s.setPnv v).remap = s.remap := rfl
@[simp] theorem State.setPnv_store (s : State) (v : Pnv) : (s.setPnv v).store = s.store := rfl
@[simp] theorem State.setPnv_flush (s : State) (v : Pnv) : (s.setPnv v).flush = s.flush := rfl
@[simp] theorem State.setPnv_pfw (s : State) (v : Pnv) : (s.setPnv v).pfw = s.pfw := rfl
@[simp] theorem State.setPnv_link (s : State) (v : Pnv) : (s.setPnv v).link = s.link := rfl
@[simp] theorem State.setPnv_events (s : State) (v : Pnv) : (s.setPnv v).events = s.events := rfl
@[simp] theorem State.setPnv_choices (s : State) (v : Pnv) : (s.setPnv v).choices = s.choices := rfl

@[simp] theorem State.setRemap_pending (s : State) (v : RemapUnit) : (s.setRemap v).pending = s.pending := rfl
@[simp] theorem State.setRemap_inReset (s : State) (v : RemapUnit) : (s.setRemap v).inReset = s.inReset := rfl
@[simp] theorem State.setRemap_mode (s : State) (v : RemapUnit) : (s.setRemap v).mode = s.mode := rfl
@[simp] theorem State.setRemap_straps (s : State) (v : RemapUnit) : (s.setRemap v).straps = s.straps := rfl
@[simp] theorem State.setRemap_time (s : State) (v : RemapUnit) : (s.setRemap v).time = s.time := rfl
@[simp] theorem State.setRemap_boot (s : State) (v : RemapUnit) : (s.setRemap v).boot = s.boot := rfl
@[simp] theorem State.setRemap_host (s : State) (v : RemapUnit) : (s.setRemap v).host = s.host := rfl
@[simp] theorem State.setRemap_regions (s : State) (v : RemapUnit) : (s.setRemap v).regions = s.regions := rfl
@[simp] theorem State.setRemap_cfg (s : State) (v : RemapUnit) : (s.setRemap v).cfg = s.cfg := rfl
@[simp] theorem State.setRemap_table (s : State) (v : RemapUnit) : (s.setRemap v).table = s.table := rfl
@[simp] theorem State.setRemap_ce (s : State) (v : RemapUnit) : (s.setRemap v).ce = s.ce := rfl
@[simp] theorem State.setRemap_port (s : State) (v : RemapUnit) : (s.setRemap v).port = s.port := rfl
@[simp] theorem State.setRemap_pnv (s : State) (v : RemapUnit) : (s.setRemap v).pnv = s.pnv := rfl
@[simp] theorem State.setRemap_remap (s : State) (v : RemapUnit) : (s.setRemap v).remap = v := rfl
@[simp] theorem State.setRemap_store (s : State) (v : RemapUnit) : (s.setRemap v).store = s.store := rfl
@[simp] theorem State.setRemap_flush (s : State) (v : RemapUnit) : (s.setRemap v).flush = s.flush := rfl
@[simp] theorem State.setRemap_pfw (s : State) (v : RemapUnit) : (s.setRemap v).pfw = s.pfw := rfl
@[simp] theorem State.setRemap_link (s : State) (v : RemapUnit) : (s.setRemap v).link = s.link := rfl
@[simp] theorem State.setRemap_events (s : State) (v : RemapUnit) : (s.setRemap v).events = s.events := rfl
@[simp] theorem State.setRemap_choices (s : State) (v : RemapUnit) : (s.setRemap v).choices = s.choices := rfl

@[simp] theorem State.setStore_pending (s : State) (v : MapStore) : (s.setStore v).pending = s.pending := rfl
@[simp] theorem State.setStore_inReset (s : State) (v : MapStore) : (s.setStore v).inReset = s.inReset := rfl
@[simp] theorem State.setStore_mode (s : State) (v : MapStore) : (s.setStore v).mode = s.mode := rfl
@[simp] theorem State.setStore_straps (s : State) (v : MapStore) : (s.setStore v).straps = s.straps := rfl
@[simp] theorem State.setStore_time (s : State) (v : MapStore) : (s.setStore v).time = s.time := rfl
@[simp] theorem State.setStore_boot (s : State) (v : MapStore) : (s.setStore v).boot = s.boot := rfl
@[simp] theorem State.setStore_host (s : State) (v : MapStore) : (s.setStore v).host = s.host := rfl
@[simp] theorem State.setStore_regions (s : State) (v : MapStore) : (s.setStore v).regions = s.regions := rfl
@[simp] theorem State.setStore_cfg (s : State) (v : MapStore) : (s.setStore v).cfg = s.cfg := rfl
@[simp] theorem State.setStore_table (s : State) (v : MapStore) : (s.setStore v).table = s.table := rfl
@[simp] theorem State.setStore_ce (s : State) (v : MapStore) : (s.setStore v).ce = s.ce := rfl
@[simp] theorem State.setStore_port (s : State) (v : MapStore) : (s.setStore v).port = s.port := rfl
@[simp] theorem State.setStore_pnv (s : State) (v : MapStore) : (s.setStore v).pnv = s.pnv := rfl
@[simp] theorem State.setStore_remap (s : State) (v : MapStore) : (s.setStore v).remap = s.remap := rfl
@[simp] theorem State.setStore_store (s : State) (v : MapStore) : (s.setStore v).store = v := rfl
@[simp] theorem State.setStore_flush (s : State) (v : MapStore) : (s.setStore v).flush = s.flush := rfl
@[simp] theorem State.setStore_pfw (s : State) (v : MapStore) : (s.setStore v).pfw = s.pfw := rfl
@[simp] theorem State.setStore_link (s : State) (v : MapStore) : (s.setStore v).link = s.link := rfl
@[simp] theorem State.setStore_events (s : State) (v : MapStore) : (s.setStore v).events = s.events := rfl
@[simp] theorem State.setStore_choices (s : State) (v : MapStore) : (s.setStore v).choices = s.choices := rfl

@[simp] theorem State.setFlush_pending (s : State) (v : FlushState) : (s.setFlush v).pending = s.pending := rfl
@[simp] theorem State.setFlush_inReset (s : State) (v : FlushState) : (s.setFlush v).inReset = s.inReset := rfl
@[simp] theorem State.setFlush_mode (s : State) (v : FlushState) : (s.setFlush v).mode = s.mode := rfl
@[simp] theorem State.setFlush_straps (s : State) (v : FlushState) : (s.setFlush v).straps = s.straps := rfl
@[simp] theorem State.setFlush_time (s : State) (v : FlushState) : (s.setFlush v).time = s.time := rfl
@[simp] theorem State.setFlush_boot (s : State) (v : FlushState) : (s.setFlush v).boot = s.boot := rfl
@[simp] theorem State.setFlush_host (s : State) (v : FlushState) : (s.setFlush v).host = s.host := rfl
@[simp] theorem State.setFlush_regions (s : State) (v : FlushState) : (s.setFlush v).regions = s.regions := rfl
@[simp] theorem State.setFlush_cfg (s : State) (v : FlushState) : (s.setFlush v).cfg = s.cfg := rfl
@[simp] theorem State.setFlush_table (s : State) (v : FlushState) : (s.setFlush v).table = s.table := rfl
@[simp] theorem State.setFlush_ce (s : State) (v : FlushState) : (s.setFlush v).ce = s.ce := rfl
@[simp] theorem State.setFlush_port (s : State) (v : FlushState) : (s.setFlush v).port = s.port := rfl
@[simp] theorem State.setFlush_pnv (s : State) (v : FlushState) : (s.setFlush v).pnv = s.pnv := rfl
@[simp] theorem State.setFlush_remap (s : State) (v : FlushState) : (s.setFlush v).remap = s.remap := rfl
@[simp] theorem State.setFlush_store (s : State) (v : FlushState) : (s.setFlush v).store = s.store := rfl
@[simp] theorem State.setFlush_flush (s : State) (v : FlushState) : (s.setFlush v).flush = v := rfl
@[simp] theorem State.setFlush_pfw (s : State) (v : FlushState) : (s.setFlush v).pfw = s.pfw := rfl
@[simp] theorem State.setFlush_link (s : State) (v : FlushState) : (s.setFlush v).link = s.link := rfl
@[simp] theorem State.setFlush_events (s : State) (v : FlushState) : (s.setFlush v).events = s.events := rfl
@[simp] theorem State.setFlush_choices (s : State) (v : FlushState) : (s.setFlush v).choices = s.choices := rfl

@[simp] theorem State.setPfw_pending (s : State) (v : Bool) : (s.setPfw v).pending = s.pending := rfl
@[simp] theorem State.setPfw_inReset (s : State) (v : Bool) : (s.setPfw v).inReset = s.inReset := rfl
@[simp] theorem State.setPfw_mode (s : State) (v : Bool) : (s.setPfw v).mode = s.mode := rfl
@[simp] theorem State.setPfw_straps (s : State) (v : Bool) : (s.setPfw v).straps = s.straps := rfl
@[simp] theorem State.setPfw_time (s : State) (v : Bool) : (s.setPfw v).time = s.time := rfl
@[simp] theorem State.setPfw_boot (s : State) (v : Bool) : (s.setPfw v).boot = s.boot := rfl
@[simp] theorem State.setPfw_host (s : State) (v : Bool) : (s.setPfw v).host = s.host := rfl
@[simp] theorem State.setPfw_regions (s : State) (v : Bool) : (s.setPfw v).regions = s.regions := rfl
@[simp] theorem State.setPfw_cfg (s : State) (v : Bool) : (s.setPfw v).cfg = s.cfg := rfl
@[simp] theorem State.setPfw_table (s : State) (v : Bool) : (s.setPfw v).table = s.table := rfl
@[simp] theorem State.setPfw_ce (s : State) (v : Bool) : (s.setPfw v).ce = s.ce := rfl
@[simp] theorem State.setPfw_port (s : State) (v : Bool) : (s.setPfw v).port = s.port := rfl
@[simp] theorem State.setPfw_pnv (s : State) (v : Bool) : (s.setPfw v).pnv = s.pnv := rfl
@[simp] theorem State.setPfw_remap (s : State) (v : Bool) : (s.setPfw v).remap = s.remap := rfl
@[simp] theorem State.setPfw_store (s : State) (v : Bool) : (s.setPfw v).store = s.store := rfl
@[simp] theorem State.setPfw_flush (s : State) (v : Bool) : (s.setPfw v).flush = s.flush := rfl
@[simp] theorem State.setPfw_pfw (s : State) (v : Bool) : (s.setPfw v).pfw = v := rfl
@[simp] theorem State.setPfw_link (s : State) (v : Bool) : (s.setPfw v).link = s.link := rfl
@[simp] theorem State.setPfw_events (s : State) (v : Bool) : (s.setPfw v).events = s.events := rfl
@[simp] theorem State.setPfw_choices (s : State) (v : Bool) : (s.setPfw v).choices = s.choices := rfl

@[simp] theorem State.setLink_pending (s : State) (v : Link) : (s.setLink v).pending = s.pending := rfl
@[simp] theorem State.setLink_inReset (s : State) (v : Link) : (s.setLink v).inReset = s.inReset := rfl
@[simp] theorem State.setLink_mode (s : State) (v : Link) : (s.setLink v).mode = s.mode := rfl
@[simp] theorem State.setLink_straps (s : State) (v : Link) : (s.setLink v).straps = s.straps := rfl
@[simp] theorem State.setLink_time (s : State) (v : Link) : (s.setLink v).time = s.time := rfl
@[simp] theorem State.setLink_boot (s : State) (v : Link) : (s.setLink v).boot = s.boot := rfl
@[simp] theorem State.setLink_host (s : State) (v : Link) : (s.setLink v).host = s.host := rfl
@[simp] theorem State.setLink_regions (s : State) (v : Link) : (s.setLink v).regions = s.regions := rfl
@[simp] theorem State.setLink_cfg (s : State) (v : Link) : (s.setLink v).cfg = s.cfg := rfl
@[simp] theorem State.setLink_table (s : State) (v : Link) : (s.setLink v).table = s.table := rfl
@[simp] theorem State.setLink_ce (s : State) (v : Link) : (s.setLink v).ce = s.ce := rfl
@[simp] theorem State.setLink_port (s : State) (v : Link) : (s.setLink v).port = s.port := rfl
@[simp] theorem State.setLink_pnv (s : State) (v : Link) : (s.setLink v).pnv = s.pnv := rfl
@[simp] theorem State.setLink_remap (s : State) (v : Link) : (s.setLink v).remap = s.remap := rfl
@[simp] theorem State.setLink_store (s : State) (v : Link) : (s.setLink v).store = s.store := rfl
@[simp] theorem State.setLink_flush (s : State) (v : Link) : (s.setLink v).flush = s.flush := rfl
@[simp] theorem State.setLink_pfw (s : State) (v : Link) : (s.setLink v).pfw = s.pfw := rfl
@[simp] theorem State.setLink_link (s : State) (v : Link) : (s.setLink v).link = v := rfl
@[simp] theorem State.setLink_events (s : State) (v : Link) : (s.setLink v).events = s.events := rfl
@[simp] theorem State.setLink_choices (s : State) (v : Link) : (s.setLink v).choices = s.choices := rfl

@[simp] theorem State.setEvents_pending (s : State) (v : EventUnit) : (s.setEvents v).pending = s.pending := rfl
@[simp] theorem State.setEvents_inReset (s : State) (v : EventUnit) : (s.setEvents v).inReset = s.inReset := rfl
@[simp] theorem State.setEvents_mode (s : State) (v : EventUnit) : (s.setEvents v).mode = s.mode := rfl
@[simp] theorem State.setEvents_straps (s : State) (v : EventUnit) : (s.setEvents v).straps = s.straps := rfl
@[simp] theorem State.setEvents_time (s : State) (v : EventUnit) : (s.setEvents v).time = s.time := rfl
@[simp] theorem State.setEvents_boot (s : State) (v : EventUnit) : (s.setEvents v).boot = s.boot := rfl
@[simp] theorem State.setEvents_host (s : State) (v : EventUnit) : (s.setEvents v).host = s.host := rfl
@[simp] theorem State.setEvents_regions (s : State) (v : EventUnit) : (s.setEvents v).regions = s.regions := rfl
@[simp] theorem State.setEvents_cfg (s : State) (v : EventUnit) : (s.setEvents v).cfg = s.cfg := rfl
@[simp] theorem State.setEvents_table (s : State) (v : EventUnit) : (s.setEvents v).table = s.table := rfl
@[simp] theorem State.setEvents_ce (s : State) (v : EventUnit) : (s.setEvents v).ce = s.ce := rfl
@[simp] theorem State.setEvents_port (s : State) (v : EventUnit) : (s.setEvents v).port = s.port := rfl
@[simp] theorem State.setEvents_pnv (s : State) (v : EventUnit) : (s.setEvents v).pnv = s.pnv := rfl
@[simp] theorem State.setEvents_remap (s : State) (v : EventUnit) : (s.setEvents v).remap = s.remap := rfl
@[simp] theorem State.setEvents_store (s : State) (v : EventUnit) : (s.setEvents v).store = s.store := rfl
@[simp] theorem State.setEvents_flush (s : State) (v : EventUnit) : (s.setEvents v).flush = s.flush := rfl
@[simp] theorem State.setEvents_pfw (s : State) (v : EventUnit) : (s.setEvents v).pfw = s.pfw := rfl
@[simp] theorem State.setEvents_link (s : State) (v : EventUnit) : (s.setEvents v).link = s.link := rfl
@[simp] theorem State.setEvents_events (s : State) (v : EventUnit) : (s.setEvents v).events = v := rfl
@[simp] theorem State.setEvents_choices (s : State) (v : EventUnit) : (s.setEvents v).choices = s.choices := rfl

@[simp] theorem State.setChoices_pending (s : State) (v : Nat) : (s.setChoices v).pending = s.pending := rfl
@[simp] theorem State.setChoices_inReset (s : State) (v : Nat) : (s.setChoices v).inReset = s.inReset := rfl
@[simp] theorem State.setChoices_mode (s : State) (v : Nat) : (s.setChoices v).mode = s.mode := rfl
@[simp] theorem State.setChoices_straps (s : State) (v : Nat) : (s.setChoices v).straps = s.straps := rfl
@[simp] theorem State.setChoices_time (s : State) (v : Nat) : (s.setChoices v).time = s.time := rfl
@[simp] theorem State.setChoices_boot (s : State) (v : Nat) : (s.setChoices v).boot = s.boot := rfl
@[simp] theorem State.setChoices_host (s : State) (v : Nat) : (s.setChoices v).host = s.host := rfl
@[simp] theorem State.setChoices_regions (s : State) (v : Nat) : (s.setChoices v).regions = s.regions := rfl
@[simp] theorem State.setChoices_cfg (s : State) (v : Nat) : (s.setChoices v).cfg = s.cfg := rfl
@[simp] theorem State.setChoices_table (s : State) (v : Nat) : (s.setChoices v).table = s.table := rfl
@[simp] theorem State.setChoices_ce (s : State) (v : Nat) : (s.setChoices v).ce = s.ce := rfl
@[simp] theorem State.setChoices_port (s : State) (v : Nat) : (s.setChoices v).port = s.port := rfl
@[simp] theorem State.setChoices_pnv (s : State) (v : Nat) : (s.setChoices v).pnv = s.pnv := rfl
@[simp] theorem State.setChoices_remap (s : State) (v : Nat) : (s.setChoices v).remap = s.remap := rfl
@[simp] theorem State.setChoices_store (s : State) (v : Nat) : (s.setChoices v).store = s.store := rfl
@[simp] theorem State.setChoices_flush (s : State) (v : Nat) : (s.setChoices v).flush = s.flush := rfl
@[simp] theorem State.setChoices_pfw (s : State) (v : Nat) : (s.setChoices v).pfw = s.pfw := rfl
@[simp] theorem State.setChoices_link (s : State) (v : Nat) : (s.setChoices v).link = s.link := rfl
@[simp] theorem State.setChoices_events (s : State) (v : Nat) : (s.setChoices v).events = s.events := rfl
@[simp] theorem State.setChoices_choices (s : State) (v : Nat) : (s.setChoices v).choices = v := rfl

end Sys2Proof.Machine
end

