-- ==== Sys2Proof/Laws/CommitEngine.lean ====
section
/-!
SUPPORT. The commit engine's shared operations: the start claim is a change of the engine's stage alone, and so is the
return to IDLE; resolution, case by case.
-/
namespace Sys2Proof.Machine

/-- Everything the start claim does (R85). -/
theorem State.placeStart_eq (s : State) :
    s.placeStart =
      s.setCe
        (if s.ce.stage = .idle ∧ s.table.dueQueue ≠ [] ∧ (s.mode = .run ∨ s.mode = .holdup) then
          { s.ce with stage := .starting }
        else s.ce) := by
  unfold State.placeStart
  split <;> rfl

/-- Everything the return to IDLE does (R102, R104). -/
theorem State.commitOver_eq (s : State) :
    s.commitOver =
      s.setCe
        { record := none
          stage :=
            if s.table.dueQueue ≠ [] ∧ (s.mode = .run ∨ s.mode = .holdup) then .starting else .idle } := by
  unfold State.commitOver State.placeStart
  simp only [State.setCe_ce, State.setCe_table, State.setCe_mode, true_and]
  split <;> rfl

/-- Resolution, case by case (R8): a REMAP record of the page gives its spare, and without one the page is at home. -/
theorem resolvePage_cases (r : RemapUnit) (page : Nat) :
    (∃ m ∈ r.records, m.kind = .remap ∧ m.page = page ∧ resolveTarget r page = .spare m.spare ∧
        resolvePage r page = 34 + m.spare) ∨
      ((∀ m ∈ r.records, m.kind = .remap → m.page ≠ page) ∧ resolveTarget r page = .home ∧
        resolvePage r page = 34 + r.spares + page) := by
  cases h : r.records.find? fun m => m.kind == .remap && m.page == page with
  | some m =>
    refine .inl ⟨m, List.mem_of_find?_eq_some h, ?_⟩
    have := List.find?_some h
    simp at this
    simp [this, resolveTarget, resolvePage, remapOf, h, targetPage, sparePage]
  | none =>
    refine .inr ⟨?_, ?_⟩
    · simpa using h
    · simp [resolveTarget, resolvePage, remapOf, h, targetPage, homePage]

/-- The spares-low test touches the report state and the flags alone (R133). -/
theorem State.sparesLowTest_eq (s : State) :
    s.sparesLowTest = (s.setRemap { s.remap with lowReport := s.sparesLowTest.remap.lowReport }).setEvents
      { s.events with flags := s.sparesLowTest.events.flags } := by
  unfold State.sparesLowTest
  split <;> rfl

/-- A change report touches the map store alone (R148). -/
theorem State.mapChange_eq (s : State) : s.mapChange = s.setStore s.mapChange.store := by
  unfold State.mapChange
  split <;> rfl

theorem State.configChange_eq (s : State) : s.configChange = s.setStore s.configChange.store := by
  unfold State.configChange
  split <;> rfl

end Sys2Proof.Machine
end

