-- ==== Sys2Proof/Laws/FollowOn.lean ====
section
/-!
SUPPORT. How a row is taken: a complete state settles to itself, an outside row acts on it at once, a follow-on row acts
when it is due; and a property that every follow-on row and every expiry keeps is kept by the settling.
-/
namespace Sys2Proof.Machine

theorem State.settleFor_of_due_none {s : State} (h : s.due = none) (stop : Option FollowOn) (n : Nat) :
    State.settleFor stop n s = s := by
  cases n <;> simp [State.settleFor, h]

/-- A state whose step is complete settles to itself. -/
theorem State.settled_of_due_none {s : State} (h : s.due = none) : s.settled = s :=
  State.settleFor_of_due_none h _ _

theorem State.atRest.settled {s : State} (h : s.atRest) : s.settled = s := State.settled_of_due_none h.2

/-- Where a follow-on row is the next due, nothing is taken before it. -/
theorem State.settledTo_of_due {s : State} {f : FollowOn} (h : s.due = some f) : s.settledTo f = s := by
  simp [State.settledTo, Config.followOnBound, State.settleFor, h]

/-- In reset nothing is due. -/
theorem State.due_of_inReset {s : State} (h : s.inReset = true) : s.due = none := by simp [State.due, h]

theorem State.inReset_of_due {s : State} {f : FollowOn} (h : s.due = some f) : s.inReset = false := by
  cases hr : s.inReset with
  | false => rfl
  | true => rw [State.due_of_inReset hr] at h; cases h

/-- An outside row acts at once on a state whose step is complete. -/
theorem State.event_of_atRest {s : State} (h : s.atRest) (effect : State → State) :
    s.event effect = .next (effect s) := by
  simp [State.event, h.1, h.settled]

theorem State.pinEvent_of_atRest {s : State} (h : s.atRest) (pin effect : State → State) :
    s.pinEvent pin effect = .next (effect (pin s)) := by
  simp [State.pinEvent, h.1, h.settled]

/-- A follow-on row that is due does what it does. -/
theorem State.followOn_of_due {s : State} {f : FollowOn} (h : s.due = some f) : s.followOn f = .next (s.follow f) := by
  simp [State.followOn, State.settledTo_of_due h, h]

/-- A follow-on row of a complete state changes nothing (log 2). -/
theorem State.followOn_of_due_none {s : State} (h : s.due = none) (f : FollowOn) : s.followOn f = .next s := by
  simp [State.followOn, State.settledTo, State.settleFor_of_due_none h, h]

/-! ### When a follow-on row is due -/

/-- What it takes for a follow-on row to be the next due: its own condition holds. -/
theorem State.due_spec {s : State} {f : FollowOn} (h : s.due = some f) :
    s.inReset = false ∧
      match f with
      | .clockStageEnd => clockStageEndDue s = true
      | .syncComplete => syncCompleteDue s = true
      | .saveComplete => saveCompleteDue s = true
      | .persistJobStart => persistJobStartDue s = true
      | .waitingWriteTakenAgain => waitingWriteDue s = true
      | .pressure => pressureDue s = true
      | .flushDone => flushDoneDue s = true
      | g => grantDue s = some g := by
  refine ⟨State.inReset_of_due h, ?_⟩
  have grants : ∀ g, grantDue s = some g →
      g = .byteReadGrant ∨ g = .mapStoreStepGrant ∨ g = .snapshot ∨ g = .programClaimGrant ∨ g = .verifyClaimGrant := by
    intro g hg
    unfold grantDue at hg
    repeat' split at hg
    all_goals first | (cases hg; simp) | cases hg
  unfold State.due at h
  repeat' split at h
  all_goals first
    | (cases h; assumption)
    | (rename_i g hg; cases h; rcases grants _ hg with rfl | rfl | rfl | rfl | rfl <;> exact hg)
    | cases h

/-- A grant is due only at an idle port. -/
theorem grantDue_port {s : State} {f : FollowOn} (h : grantDue s = some f) : s.port = .idle := by
  unfold grantDue at h
  split at h
  · cases h
  · rename_i hp; exact Decidable.of_not_not hp

/-! ### Properties kept by settling -/

theorem State.settleFor_keeps {P : State → Prop} (keep : ∀ f s, P s → s.due = some f → P (s.follow f))
    (stop : Option FollowOn) (n : Nat) {s : State} (h : P s) : P (State.settleFor stop n s) := by
  induction n generalizing s with
  | zero => exact h
  | succ n ih =>
    simp only [State.settleFor]
    split
    · exact h
    · rename_i f hf
      split
      · exact h
      · exact ih (keep f s h hf)

theorem State.settled_keeps {P : State → Prop} (keep : ∀ f s, P s → s.due = some f → P (s.follow f)) {s : State}
    (h : P s) : P s.settled :=
  State.settleFor_keeps keep _ _ h

theorem State.settleForTick_keeps {P : State → Prop} (keep : ∀ f s, P s → s.due = some f → P (s.follow f))
    (expire : ∀ e s, P s → s.expiry = some e → P (s.expire e)) (n : Nat) {s : State} (h : P s) :
    P (State.settleForTick n s) := by
  induction n generalizing s with
  | zero => exact h
  | succ n ih =>
    simp only [State.settleForTick]
    split
    · rename_i f hf; exact ih (keep f s h hf)
    · split
      · rename_i e he; exact ih (expire e s h he)
      · exact h

theorem State.readyForTick_keeps {P : State → Prop} (keep : ∀ f s, P s → s.due = some f → P (s.follow f))
    (expire : ∀ e s, P s → s.expiry = some e → P (s.expire e)) {s : State} (h : P s) : P s.readyForTick :=
  State.settleForTick_keeps keep expire _ h

/-- A state with nothing due and no expiry waiting is ready for the next tick as it stands. -/
theorem State.readyForTick_of_none {s : State} (h : s.due = none) (h' : s.expiry = none) : s.readyForTick = s := by
  simp [State.readyForTick, Config.tickBound, State.settleForTick, h, h']

end Sys2Proof.Machine
end

