-- ==== Sys2Proof/Laws/Reports.lean ====
section
/-!
SUPPORT. What the shared reports and the ends of a host access leave as it was, one lemma per field, true by rfl; and
what they do to the field they are about.
-/
namespace Sys2Proof.Machine

@[simp] theorem State.raise_pending (s : State) (f : Flag) : (s.raise f).pending = s.pending := rfl
@[simp] theorem State.raise_inReset (s : State) (f : Flag) : (s.raise f).inReset = s.inReset := rfl
@[simp] theorem State.raise_mode (s : State) (f : Flag) : (s.raise f).mode = s.mode := rfl
@[simp] theorem State.raise_straps (s : State) (f : Flag) : (s.raise f).straps = s.straps := rfl
@[simp] theorem State.raise_time (s : State) (f : Flag) : (s.raise f).time = s.time := rfl
@[simp] theorem State.raise_boot (s : State) (f : Flag) : (s.raise f).boot = s.boot := rfl
@[simp] theorem State.raise_host (s : State) (f : Flag) : (s.raise f).host = s.host := rfl
@[simp] theorem State.raise_regions (s : State) (f : Flag) : (s.raise f).regions = s.regions := rfl
@[simp] theorem State.raise_cfg (s : State) (f : Flag) : (s.raise f).cfg = s.cfg := rfl
@[simp] theorem State.raise_table (s : State) (f : Flag) : (s.raise f).table = s.table := rfl
@[simp] theorem State.raise_ce (s : State) (f : Flag) : (s.raise f).ce = s.ce := rfl
@[simp] theorem State.raise_port (s : State) (f : Flag) : (s.raise f).port = s.port := rfl
@[simp] theorem State.raise_pnv (s : State) (f : Flag) : (s.raise f).pnv = s.pnv := rfl
@[simp] theorem State.raise_remap (s : State) (f : Flag) : (s.raise f).remap = s.remap := rfl
@[simp] theorem State.raise_store (s : State) (f : Flag) : (s.raise f).store = s.store := rfl
@[simp] theorem State.raise_flush (s : State) (f : Flag) : (s.raise f).flush = s.flush := rfl
@[simp] theorem State.raise_pfw (s : State) (f : Flag) : (s.raise f).pfw = s.pfw := rfl
@[simp] theorem State.raise_link (s : State) (f : Flag) : (s.raise f).link = s.link := rfl
@[simp] theorem State.raise_events (s : State) (f : Flag) : (s.raise f).events = raiseFlag f s.events := rfl
@[simp] theorem State.raise_choices (s : State) (f : Flag) : (s.raise f).choices = s.choices := rfl

@[simp] theorem State.offer_pending (s : State) (k : ErrorKind) (a : Nat) : (s.offer k a).pending = s.pending := rfl
@[simp] theorem State.offer_inReset (s : State) (k : ErrorKind) (a : Nat) : (s.offer k a).inReset = s.inReset := rfl
@[simp] theorem State.offer_mode (s : State) (k : ErrorKind) (a : Nat) : (s.offer k a).mode = s.mode := rfl
@[simp] theorem State.offer_straps (s : State) (k : ErrorKind) (a : Nat) : (s.offer k a).straps = s.straps := rfl
@[simp] theorem State.offer_time (s : State) (k : ErrorKind) (a : Nat) : (s.offer k a).time = s.time := rfl
@[simp] theorem State.offer_boot (s : State) (k : ErrorKind) (a : Nat) : (s.offer k a).boot = s.boot := rfl
@[simp] theorem State.offer_host (s : State) (k : ErrorKind) (a : Nat) : (s.offer k a).host = s.host := rfl
@[simp] theorem State.offer_regions (s : State) (k : ErrorKind) (a : Nat) : (s.offer k a).regions = s.regions := rfl
@[simp] theorem State.offer_cfg (s : State) (k : ErrorKind) (a : Nat) : (s.offer k a).cfg = s.cfg := rfl
@[simp] theorem State.offer_table (s : State) (k : ErrorKind) (a : Nat) : (s.offer k a).table = s.table := rfl
@[simp] theorem State.offer_ce (s : State) (k : ErrorKind) (a : Nat) : (s.offer k a).ce = s.ce := rfl
@[simp] theorem State.offer_port (s : State) (k : ErrorKind) (a : Nat) : (s.offer k a).port = s.port := rfl
@[simp] theorem State.offer_pnv (s : State) (k : ErrorKind) (a : Nat) : (s.offer k a).pnv = s.pnv := rfl
@[simp] theorem State.offer_remap (s : State) (k : ErrorKind) (a : Nat) : (s.offer k a).remap = s.remap := rfl
@[simp] theorem State.offer_store (s : State) (k : ErrorKind) (a : Nat) : (s.offer k a).store = s.store := rfl
@[simp] theorem State.offer_flush (s : State) (k : ErrorKind) (a : Nat) : (s.offer k a).flush = s.flush := rfl
@[simp] theorem State.offer_pfw (s : State) (k : ErrorKind) (a : Nat) : (s.offer k a).pfw = s.pfw := rfl
@[simp] theorem State.offer_link (s : State) (k : ErrorKind) (a : Nat) : (s.offer k a).link = s.link := rfl
@[simp] theorem State.offer_events (s : State) (k : ErrorKind) (a : Nat) : (s.offer k a).events = offerError { kind := k, addr := BitVec.ofNat 24 a, stamp := s.time.stamp } s.events := rfl
@[simp] theorem State.offer_choices (s : State) (k : ErrorKind) (a : Nat) : (s.offer k a).choices = s.choices := rfl

@[simp] theorem State.count_pending (s : State) (c : Counter) : (s.count c).pending = s.pending := rfl
@[simp] theorem State.count_inReset (s : State) (c : Counter) : (s.count c).inReset = s.inReset := rfl
@[simp] theorem State.count_mode (s : State) (c : Counter) : (s.count c).mode = s.mode := rfl
@[simp] theorem State.count_straps (s : State) (c : Counter) : (s.count c).straps = s.straps := rfl
@[simp] theorem State.count_time (s : State) (c : Counter) : (s.count c).time = s.time := rfl
@[simp] theorem State.count_boot (s : State) (c : Counter) : (s.count c).boot = s.boot := rfl
@[simp] theorem State.count_host (s : State) (c : Counter) : (s.count c).host = s.host := rfl
@[simp] theorem State.count_regions (s : State) (c : Counter) : (s.count c).regions = s.regions := rfl
@[simp] theorem State.count_cfg (s : State) (c : Counter) : (s.count c).cfg = s.cfg := rfl
@[simp] theorem State.count_table (s : State) (c : Counter) : (s.count c).table = s.table := rfl
@[simp] theorem State.count_ce (s : State) (c : Counter) : (s.count c).ce = s.ce := rfl
@[simp] theorem State.count_port (s : State) (c : Counter) : (s.count c).port = s.port := rfl
@[simp] theorem State.count_pnv (s : State) (c : Counter) : (s.count c).pnv = s.pnv := rfl
@[simp] theorem State.count_remap (s : State) (c : Counter) : (s.count c).remap = s.remap := rfl
@[simp] theorem State.count_store (s : State) (c : Counter) : (s.count c).store = s.store := rfl
@[simp] theorem State.count_flush (s : State) (c : Counter) : (s.count c).flush = s.flush := rfl
@[simp] theorem State.count_pfw (s : State) (c : Counter) : (s.count c).pfw = s.pfw := rfl
@[simp] theorem State.count_link (s : State) (c : Counter) : (s.count c).link = s.link := rfl
@[simp] theorem State.count_events (s : State) (c : Counter) : (s.count c).events = addCount c s.events := rfl
@[simp] theorem State.count_choices (s : State) (c : Counter) : (s.count c).choices = s.choices := rfl

@[simp] theorem State.report_pending (s : State) (f : Flag) (k : ErrorKind) (a : HostAddr) : (s.report f k a).pending = s.pending := rfl
@[simp] theorem State.report_inReset (s : State) (f : Flag) (k : ErrorKind) (a : HostAddr) : (s.report f k a).inReset = s.inReset := rfl
@[simp] theorem State.report_mode (s : State) (f : Flag) (k : ErrorKind) (a : HostAddr) : (s.report f k a).mode = s.mode := rfl
@[simp] theorem State.report_straps (s : State) (f : Flag) (k : ErrorKind) (a : HostAddr) : (s.report f k a).straps = s.straps := rfl
@[simp] theorem State.report_time (s : State) (f : Flag) (k : ErrorKind) (a : HostAddr) : (s.report f k a).time = s.time := rfl
@[simp] theorem State.report_boot (s : State) (f : Flag) (k : ErrorKind) (a : HostAddr) : (s.report f k a).boot = s.boot := rfl
@[simp] theorem State.report_host (s : State) (f : Flag) (k : ErrorKind) (a : HostAddr) : (s.report f k a).host = s.host := rfl
@[simp] theorem State.report_regions (s : State) (f : Flag) (k : ErrorKind) (a : HostAddr) : (s.report f k a).regions = s.regions := rfl
@[simp] theorem State.report_cfg (s : State) (f : Flag) (k : ErrorKind) (a : HostAddr) : (s.report f k a).cfg = s.cfg := rfl
@[simp] theorem State.report_table (s : State) (f : Flag) (k : ErrorKind) (a : HostAddr) : (s.report f k a).table = s.table := rfl
@[simp] theorem State.report_ce (s : State) (f : Flag) (k : ErrorKind) (a : HostAddr) : (s.report f k a).ce = s.ce := rfl
@[simp] theorem State.report_port (s : State) (f : Flag) (k : ErrorKind) (a : HostAddr) : (s.report f k a).port = s.port := rfl
@[simp] theorem State.report_pnv (s : State) (f : Flag) (k : ErrorKind) (a : HostAddr) : (s.report f k a).pnv = s.pnv := rfl
@[simp] theorem State.report_remap (s : State) (f : Flag) (k : ErrorKind) (a : HostAddr) : (s.report f k a).remap = s.remap := rfl
@[simp] theorem State.report_store (s : State) (f : Flag) (k : ErrorKind) (a : HostAddr) : (s.report f k a).store = s.store := rfl
@[simp] theorem State.report_flush (s : State) (f : Flag) (k : ErrorKind) (a : HostAddr) : (s.report f k a).flush = s.flush := rfl
@[simp] theorem State.report_pfw (s : State) (f : Flag) (k : ErrorKind) (a : HostAddr) : (s.report f k a).pfw = s.pfw := rfl
@[simp] theorem State.report_link (s : State) (f : Flag) (k : ErrorKind) (a : HostAddr) : (s.report f k a).link = s.link := rfl
@[simp] theorem State.report_events (s : State) (f : Flag) (k : ErrorKind) (a : HostAddr) : (s.report f k a).events = offerError { kind := k, addr := BitVec.ofNat 24 a.toNat, stamp := s.time.stamp } (raiseFlag f s.events) := rfl
@[simp] theorem State.report_choices (s : State) (f : Flag) (k : ErrorKind) (a : HostAddr) : (s.report f k a).choices = s.choices := rfl

@[simp] theorem State.endAccess_pending (s : State) (r : Option Byte) : (s.endAccess r).pending = s.pending := rfl
@[simp] theorem State.endAccess_inReset (s : State) (r : Option Byte) : (s.endAccess r).inReset = s.inReset := rfl
@[simp] theorem State.endAccess_mode (s : State) (r : Option Byte) : (s.endAccess r).mode = s.mode := rfl
@[simp] theorem State.endAccess_straps (s : State) (r : Option Byte) : (s.endAccess r).straps = s.straps := rfl
@[simp] theorem State.endAccess_time (s : State) (r : Option Byte) : (s.endAccess r).time = s.time := rfl
@[simp] theorem State.endAccess_boot (s : State) (r : Option Byte) : (s.endAccess r).boot = s.boot := rfl
@[simp] theorem State.endAccess_regions (s : State) (r : Option Byte) : (s.endAccess r).regions = s.regions := rfl
@[simp] theorem State.endAccess_cfg (s : State) (r : Option Byte) : (s.endAccess r).cfg = s.cfg := rfl
@[simp] theorem State.endAccess_table (s : State) (r : Option Byte) : (s.endAccess r).table = s.table := rfl
@[simp] theorem State.endAccess_ce (s : State) (r : Option Byte) : (s.endAccess r).ce = s.ce := rfl
@[simp] theorem State.endAccess_port (s : State) (r : Option Byte) : (s.endAccess r).port = s.port := rfl
@[simp] theorem State.endAccess_pnv (s : State) (r : Option Byte) : (s.endAccess r).pnv = s.pnv := rfl
@[simp] theorem State.endAccess_remap (s : State) (r : Option Byte) : (s.endAccess r).remap = s.remap := rfl
@[simp] theorem State.endAccess_store (s : State) (r : Option Byte) : (s.endAccess r).store = s.store := rfl
@[simp] theorem State.endAccess_flush (s : State) (r : Option Byte) : (s.endAccess r).flush = s.flush := rfl
@[simp] theorem State.endAccess_pfw (s : State) (r : Option Byte) : (s.endAccess r).pfw = s.pfw := rfl
@[simp] theorem State.endAccess_link (s : State) (r : Option Byte) : (s.endAccess r).link = s.link := rfl
@[simp] theorem State.endAccess_events (s : State) (r : Option Byte) : (s.endAccess r).events = s.events := rfl
@[simp] theorem State.endAccess_choices (s : State) (r : Option Byte) : (s.endAccess r).choices = s.choices := rfl

@[simp] theorem State.endRead_pending (s : State) (b : Byte) : (s.endRead b).pending = s.pending := rfl
@[simp] theorem State.endRead_inReset (s : State) (b : Byte) : (s.endRead b).inReset = s.inReset := rfl
@[simp] theorem State.endRead_mode (s : State) (b : Byte) : (s.endRead b).mode = s.mode := rfl
@[simp] theorem State.endRead_straps (s : State) (b : Byte) : (s.endRead b).straps = s.straps := rfl
@[simp] theorem State.endRead_time (s : State) (b : Byte) : (s.endRead b).time = s.time := rfl
@[simp] theorem State.endRead_boot (s : State) (b : Byte) : (s.endRead b).boot = s.boot := rfl
@[simp] theorem State.endRead_regions (s : State) (b : Byte) : (s.endRead b).regions = s.regions := rfl
@[simp] theorem State.endRead_cfg (s : State) (b : Byte) : (s.endRead b).cfg = s.cfg := rfl
@[simp] theorem State.endRead_table (s : State) (b : Byte) : (s.endRead b).table = s.table := rfl
@[simp] theorem State.endRead_ce (s : State) (b : Byte) : (s.endRead b).ce = s.ce := rfl
@[simp] theorem State.endRead_port (s : State) (b : Byte) : (s.endRead b).port = s.port := rfl
@[simp] theorem State.endRead_pnv (s : State) (b : Byte) : (s.endRead b).pnv = s.pnv := rfl
@[simp] theorem State.endRead_remap (s : State) (b : Byte) : (s.endRead b).remap = s.remap := rfl
@[simp] theorem State.endRead_store (s : State) (b : Byte) : (s.endRead b).store = s.store := rfl
@[simp] theorem State.endRead_flush (s : State) (b : Byte) : (s.endRead b).flush = s.flush := rfl
@[simp] theorem State.endRead_pfw (s : State) (b : Byte) : (s.endRead b).pfw = s.pfw := rfl
@[simp] theorem State.endRead_link (s : State) (b : Byte) : (s.endRead b).link = s.link := rfl
@[simp] theorem State.endRead_events (s : State) (b : Byte) : (s.endRead b).events = addCount .hostReads s.events := rfl
@[simp] theorem State.endRead_choices (s : State) (b : Byte) : (s.endRead b).choices = s.choices := rfl

@[simp] theorem State.dropWrite_pending (s : State) (f : Flag) (k : ErrorKind) (a : HostAddr) : (s.dropWrite f k a).pending = s.pending := rfl
@[simp] theorem State.dropWrite_inReset (s : State) (f : Flag) (k : ErrorKind) (a : HostAddr) : (s.dropWrite f k a).inReset = s.inReset := rfl
@[simp] theorem State.dropWrite_mode (s : State) (f : Flag) (k : ErrorKind) (a : HostAddr) : (s.dropWrite f k a).mode = s.mode := rfl
@[simp] theorem State.dropWrite_straps (s : State) (f : Flag) (k : ErrorKind) (a : HostAddr) : (s.dropWrite f k a).straps = s.straps := rfl
@[simp] theorem State.dropWrite_time (s : State) (f : Flag) (k : ErrorKind) (a : HostAddr) : (s.dropWrite f k a).time = s.time := rfl
@[simp] theorem State.dropWrite_boot (s : State) (f : Flag) (k : ErrorKind) (a : HostAddr) : (s.dropWrite f k a).boot = s.boot := rfl
@[simp] theorem State.dropWrite_regions (s : State) (f : Flag) (k : ErrorKind) (a : HostAddr) : (s.dropWrite f k a).regions = s.regions := rfl
@[simp] theorem State.dropWrite_cfg (s : State) (f : Flag) (k : ErrorKind) (a : HostAddr) : (s.dropWrite f k a).cfg = s.cfg := rfl
@[simp] theorem State.dropWrite_table (s : State) (f : Flag) (k : ErrorKind) (a : HostAddr) : (s.dropWrite f k a).table = s.table := rfl
@[simp] theorem State.dropWrite_ce (s : State) (f : Flag) (k : ErrorKind) (a : HostAddr) : (s.dropWrite f k a).ce = s.ce := rfl
@[simp] theorem State.dropWrite_port (s : State) (f : Flag) (k : ErrorKind) (a : HostAddr) : (s.dropWrite f k a).port = s.port := rfl
@[simp] theorem State.dropWrite_pnv (s : State) (f : Flag) (k : ErrorKind) (a : HostAddr) : (s.dropWrite f k a).pnv = s.pnv := rfl
@[simp] theorem State.dropWrite_remap (s : State) (f : Flag) (k : ErrorKind) (a : HostAddr) : (s.dropWrite f k a).remap = s.remap := rfl
@[simp] theorem State.dropWrite_store (s : State) (f : Flag) (k : ErrorKind) (a : HostAddr) : (s.dropWrite f k a).store = s.store := rfl
@[simp] theorem State.dropWrite_flush (s : State) (f : Flag) (k : ErrorKind) (a : HostAddr) : (s.dropWrite f k a).flush = s.flush := rfl
@[simp] theorem State.dropWrite_pfw (s : State) (f : Flag) (k : ErrorKind) (a : HostAddr) : (s.dropWrite f k a).pfw = s.pfw := rfl
@[simp] theorem State.dropWrite_link (s : State) (f : Flag) (k : ErrorKind) (a : HostAddr) : (s.dropWrite f k a).link = s.link := rfl
@[simp] theorem State.dropWrite_events (s : State) (f : Flag) (k : ErrorKind) (a : HostAddr) : (s.dropWrite f k a).events = offerError { kind := k, addr := BitVec.ofNat 24 a.toNat, stamp := s.time.stamp } (raiseFlag f s.events) := rfl
@[simp] theorem State.dropWrite_choices (s : State) (f : Flag) (k : ErrorKind) (a : HostAddr) : (s.dropWrite f k a).choices = s.choices := rfl

@[simp] theorem State.holdAccess_pending (s : State) (x : Access) (a : HostAddr) (l : Nat) (w : Wait) : (s.holdAccess x a l w).pending = s.pending := rfl
@[simp] theorem State.holdAccess_inReset (s : State) (x : Access) (a : HostAddr) (l : Nat) (w : Wait) : (s.holdAccess x a l w).inReset = s.inReset := rfl
@[simp] theorem State.holdAccess_mode (s : State) (x : Access) (a : HostAddr) (l : Nat) (w : Wait) : (s.holdAccess x a l w).mode = s.mode := rfl
@[simp] theorem State.holdAccess_straps (s : State) (x : Access) (a : HostAddr) (l : Nat) (w : Wait) : (s.holdAccess x a l w).straps = s.straps := rfl
@[simp] theorem State.holdAccess_time (s : State) (x : Access) (a : HostAddr) (l : Nat) (w : Wait) : (s.holdAccess x a l w).time = s.time := rfl
@[simp] theorem State.holdAccess_boot (s : State) (x : Access) (a : HostAddr) (l : Nat) (w : Wait) : (s.holdAccess x a l w).boot = s.boot := rfl
@[simp] theorem State.holdAccess_regions (s : State) (x : Access) (a : HostAddr) (l : Nat) (w : Wait) : (s.holdAccess x a l w).regions = s.regions := rfl
@[simp] theorem State.holdAccess_cfg (s : State) (x : Access) (a : HostAddr) (l : Nat) (w : Wait) : (s.holdAccess x a l w).cfg = s.cfg := rfl
@[simp] theorem State.holdAccess_table (s : State) (x : Access) (a : HostAddr) (l : Nat) (w : Wait) : (s.holdAccess x a l w).table = s.table := rfl
@[simp] theorem State.holdAccess_ce (s : State) (x : Access) (a : HostAddr) (l : Nat) (w : Wait) : (s.holdAccess x a l w).ce = s.ce := rfl
@[simp] theorem State.holdAccess_port (s : State) (x : Access) (a : HostAddr) (l : Nat) (w : Wait) : (s.holdAccess x a l w).port = s.port := rfl
@[simp] theorem State.holdAccess_pnv (s : State) (x : Access) (a : HostAddr) (l : Nat) (w : Wait) : (s.holdAccess x a l w).pnv = s.pnv := rfl
@[simp] theorem State.holdAccess_remap (s : State) (x : Access) (a : HostAddr) (l : Nat) (w : Wait) : (s.holdAccess x a l w).remap = s.remap := rfl
@[simp] theorem State.holdAccess_store (s : State) (x : Access) (a : HostAddr) (l : Nat) (w : Wait) : (s.holdAccess x a l w).store = s.store := rfl
@[simp] theorem State.holdAccess_flush (s : State) (x : Access) (a : HostAddr) (l : Nat) (w : Wait) : (s.holdAccess x a l w).flush = s.flush := rfl
@[simp] theorem State.holdAccess_pfw (s : State) (x : Access) (a : HostAddr) (l : Nat) (w : Wait) : (s.holdAccess x a l w).pfw = s.pfw := rfl
@[simp] theorem State.holdAccess_link (s : State) (x : Access) (a : HostAddr) (l : Nat) (w : Wait) : (s.holdAccess x a l w).link = s.link := rfl
@[simp] theorem State.holdAccess_events (s : State) (x : Access) (a : HostAddr) (l : Nat) (w : Wait) : (s.holdAccess x a l w).events = s.events := rfl
@[simp] theorem State.holdAccess_choices (s : State) (x : Access) (a : HostAddr) (l : Nat) (w : Wait) : (s.holdAccess x a l w).choices = s.choices := rfl

@[simp] theorem State.setWait_pending (s : State) (w : Wait) : (s.setWait w).pending = s.pending := rfl
@[simp] theorem State.setWait_inReset (s : State) (w : Wait) : (s.setWait w).inReset = s.inReset := rfl
@[simp] theorem State.setWait_mode (s : State) (w : Wait) : (s.setWait w).mode = s.mode := rfl
@[simp] theorem State.setWait_straps (s : State) (w : Wait) : (s.setWait w).straps = s.straps := rfl
@[simp] theorem State.setWait_time (s : State) (w : Wait) : (s.setWait w).time = s.time := rfl
@[simp] theorem State.setWait_boot (s : State) (w : Wait) : (s.setWait w).boot = s.boot := rfl
@[simp] theorem State.setWait_regions (s : State) (w : Wait) : (s.setWait w).regions = s.regions := rfl
@[simp] theorem State.setWait_cfg (s : State) (w : Wait) : (s.setWait w).cfg = s.cfg := rfl
@[simp] theorem State.setWait_table (s : State) (w : Wait) : (s.setWait w).table = s.table := rfl
@[simp] theorem State.setWait_ce (s : State) (w : Wait) : (s.setWait w).ce = s.ce := rfl
@[simp] theorem State.setWait_port (s : State) (w : Wait) : (s.setWait w).port = s.port := rfl
@[simp] theorem State.setWait_pnv (s : State) (w : Wait) : (s.setWait w).pnv = s.pnv := rfl
@[simp] theorem State.setWait_remap (s : State) (w : Wait) : (s.setWait w).remap = s.remap := rfl
@[simp] theorem State.setWait_store (s : State) (w : Wait) : (s.setWait w).store = s.store := rfl
@[simp] theorem State.setWait_flush (s : State) (w : Wait) : (s.setWait w).flush = s.flush := rfl
@[simp] theorem State.setWait_pfw (s : State) (w : Wait) : (s.setWait w).pfw = s.pfw := rfl
@[simp] theorem State.setWait_link (s : State) (w : Wait) : (s.setWait w).link = s.link := rfl
@[simp] theorem State.setWait_events (s : State) (w : Wait) : (s.setWait w).events = s.events := rfl
@[simp] theorem State.setWait_choices (s : State) (w : Wait) : (s.setWait w).choices = s.choices := rfl

@[simp] theorem State.startProgram_pending (s : State) (p : Nat) (b : Page) : (s.startProgram p b).pending = s.pending := rfl
@[simp] theorem State.startProgram_inReset (s : State) (p : Nat) (b : Page) : (s.startProgram p b).inReset = s.inReset := rfl
@[simp] theorem State.startProgram_mode (s : State) (p : Nat) (b : Page) : (s.startProgram p b).mode = s.mode := rfl
@[simp] theorem State.startProgram_straps (s : State) (p : Nat) (b : Page) : (s.startProgram p b).straps = s.straps := rfl
@[simp] theorem State.startProgram_time (s : State) (p : Nat) (b : Page) : (s.startProgram p b).time = s.time := rfl
@[simp] theorem State.startProgram_boot (s : State) (p : Nat) (b : Page) : (s.startProgram p b).boot = s.boot := rfl
@[simp] theorem State.startProgram_host (s : State) (p : Nat) (b : Page) : (s.startProgram p b).host = s.host := rfl
@[simp] theorem State.startProgram_regions (s : State) (p : Nat) (b : Page) : (s.startProgram p b).regions = s.regions := rfl
@[simp] theorem State.startProgram_cfg (s : State) (p : Nat) (b : Page) : (s.startProgram p b).cfg = s.cfg := rfl
@[simp] theorem State.startProgram_table (s : State) (p : Nat) (b : Page) : (s.startProgram p b).table = s.table := rfl
@[simp] theorem State.startProgram_ce (s : State) (p : Nat) (b : Page) : (s.startProgram p b).ce = s.ce := rfl
@[simp] theorem State.startProgram_port (s : State) (p : Nat) (b : Page) : (s.startProgram p b).port = s.port := rfl
@[simp] theorem State.startProgram_remap (s : State) (p : Nat) (b : Page) : (s.startProgram p b).remap = s.remap := rfl
@[simp] theorem State.startProgram_store (s : State) (p : Nat) (b : Page) : (s.startProgram p b).store = s.store := rfl
@[simp] theorem State.startProgram_flush (s : State) (p : Nat) (b : Page) : (s.startProgram p b).flush = s.flush := rfl
@[simp] theorem State.startProgram_pfw (s : State) (p : Nat) (b : Page) : (s.startProgram p b).pfw = s.pfw := rfl
@[simp] theorem State.startProgram_link (s : State) (p : Nat) (b : Page) : (s.startProgram p b).link = s.link := rfl
@[simp] theorem State.startProgram_events (s : State) (p : Nat) (b : Page) : (s.startProgram p b).events = s.events := rfl
@[simp] theorem State.startProgram_choices (s : State) (p : Nat) (b : Page) : (s.startProgram p b).choices = s.choices := rfl

end Sys2Proof.Machine
end

