-- ==== Sys2Proof/Laws/HostPort.lean ====
section
/-!
SUPPORT. What taking a host access can do, case by case; and what entry into FAULT leaves, field by field.
-/
namespace Sys2Proof.Machine

/-- A resolved write is dropped as LOCKED, taken by the table, or waits. -/
theorem State.takeResolvedWrite_cases (a : HostAddr) (d : Byte) (s : State) :
    ((resolvePolicy s.regions (logicalPage a)).policy = .locked ∧
        s.takeResolvedWrite a d = some (s.dropWrite .locked .locked a)) ∨
      ((resolvePolicy s.regions (logicalPage a)).policy ≠ .locked ∧
        ((∃ r, tableWrite s.cfg.budget s.time.stamp (logicalPage a) (pageOffset a) d
              (resolvePolicy s.regions (logicalPage a)) s.table = some r ∧
            s.takeResolvedWrite a d =
              some ((((s.setTable r.1).count .hostWritesAccepted).count r.2).endAccess none).placeStart) ∨
          (tableWrite s.cfg.budget s.time.stamp (logicalPage a) (pageOffset a) d
              (resolvePolicy s.regions (logicalPage a)) s.table = none ∧ s.takeResolvedWrite a d = none))) := by
  unfold State.takeResolvedWrite
  by_cases h : (resolvePolicy s.regions (logicalPage a)).policy = .locked
  · exact .inl ⟨h, by simp [h]⟩
  · refine .inr ⟨h, ?_⟩
    cases ht : tableWrite s.cfg.budget s.time.stamp (logicalPage a) (pageOffset a) d
      (resolvePolicy s.regions (logicalPage a)) s.table with
    | none => exact .inr ⟨rfl, by simp [h, ht]⟩
    | some r => exact .inl ⟨r, rfl, by simp [h, ht]⟩

/-- A write out of range is dropped; one in range is resolved. -/
theorem State.takeWrite_cases (a : HostAddr) (d : Byte) (s : State) :
    (s.inRange a = false ∧ s.takeWrite a d = some (s.dropWrite .range .range a)) ∨
      (s.inRange a = true ∧ s.takeWrite a d = s.takeResolvedWrite a d) := by
  unfold State.takeWrite
  cases h : s.inRange a <;> simp

/-- A read out of range ends with the filler byte; a hit ends from the image; a miss ends with the filler byte in FAULT
and claims otherwise. -/
theorem State.takeRead_cases (a : HostAddr) (s : State) :
    (s.inRange a = false ∧ s.takeRead a = some ((s.report .range .range a).endRead s.cfg.filler)) ∨
      (s.inRange a = true ∧
        ((∃ i b, tableHit s.table (logicalPage a) (pageOffset a) = some (i, b) ∧
            s.takeRead a = some (((s.setTable (touchClean i s.table)).count .readsFromTable).endRead b)) ∨
          (tableHit s.table (logicalPage a) (pageOffset a) = none ∧
            ((s.mode = .fault ∧ s.takeRead a = some ((s.offer .memtimeout a.toNat).endRead s.cfg.filler)) ∨
              (s.mode ≠ .fault ∧ s.takeRead a = none))))) := by
  unfold State.takeRead
  cases h : s.inRange a with
  | false => simp
  | true =>
    refine .inr ⟨rfl, ?_⟩
    cases ht : tableHit s.table (logicalPage a) (pageOffset a) with
    | some r => exact .inl ⟨r.1, r.2, rfl, rfl⟩
    | none =>
      refine .inr ⟨rfl, ?_⟩
      by_cases hm : s.mode = .fault <;> simp [hm]

/-- Everything that waiting for admission says of the pending access. -/
theorem waitingWrite_eq_some {h : HostPort} {a : HostAddr} {d : Byte} (e : waitingWrite h = some (a, d)) :
    ∃ p, h.pend = some p ∧ p.access = .write d ∧ p.addr = a ∧ p.wait = .admission := by
  unfold waitingWrite at e
  split at e
  · rename_i hp
    cases e
    exact ⟨_, hp, rfl, rfl, rfl⟩
  · cases e

theorem waitingRead_eq_some {h : HostPort} {a : HostAddr} (e : waitingRead h = some a) :
    ∃ p, h.pend = some p ∧ p.access = .read ∧ p.addr = a ∧ p.wait = .claim := by
  unfold waitingRead at e
  split at e
  · rename_i hp
    cases e
    exact ⟨_, hp, rfl, rfl, rfl⟩
  · cases e

/-! ### Entry into FAULT (R122, R123) -/

@[simp] theorem State.enterFault_mode (c : ErrorKind × Nat) (s : State) : (s.enterFault c).mode = .fault := rfl
@[simp] theorem State.enterFault_port (c : ErrorKind × Nat) (s : State) : (s.enterFault c).port = .faulted := rfl
@[simp] theorem State.enterFault_flush (c : ErrorKind × Nat) (s : State) : (s.enterFault c).flush = .none := rfl

end Sys2Proof.Machine
end

