-- ==== Sys2Proof/Laws/Link.lean ====
section
/-!
SUPPORT. How a link command is taken: in frame state COMMAND, or with its last argument byte; and its reply by the
order of R182.
-/
namespace Sys2Proof.Machine

/-- A command without arguments takes effect in frame state COMMAND. -/
theorem State.event_takeBare {s : State} (hr : s.atRest) (hf : s.link.frame = .command) (c : Command) :
    s.event (State.takeBare c) = .next (s.takeEffect c []) := by
  rw [State.event_of_atRest hr]
  simp [State.takeBare, hf]

/-- A command with arguments takes effect at its last argument byte. -/
theorem State.event_takeWithLast {s : State} (hr : s.atRest) {c : Command} {taken : List Byte}
    (hf : s.link.frame = .arguments c taken) (hl : taken.length + 1 = argumentCount c) (b : Byte) :
    s.event (State.takeWithLast c b) = .next (s.takeEffect c (taken ++ [b])) := by
  rw [State.event_of_atRest hr]
  simp [State.takeWithLast, hf, hl]

/-- Outside BOOT a command that is not long is answered by its own checks and effect. -/
theorem State.takeEffect_of_short {s : State} (hm : s.mode ≠ .boot) {c : Command} (hl : isLong c = false)
    (args : List Byte) :
    s.takeEffect c args =
      (commandReply c args s).after.setFrame (.response (responseBytes c (commandReply c args s))) := by
  simp [State.takeEffect, decideReply, hm, hl]

/-- Outside BOOT, with no long command in flight, so is a long one. -/
theorem State.takeEffect_of_free {s : State} (hm : s.mode ≠ .boot) (hl : s.link.longCommand = .none) (c : Command)
    (args : List Byte) :
    s.takeEffect c args =
      (commandReply c args s).after.setFrame (.response (responseBytes c (commandReply c args s))) := by
  simp [State.takeEffect, decideReply, hm, hl]

/-- In BOOT every command but GET_ID and GET_STATUS is turned down, and changes the frame alone (R166, R182). -/
theorem State.takeEffect_of_boot {s : State} (hm : s.mode = .boot) {c : Command} (hc : answeredInBoot c = false)
    (args : List Byte) :
    s.takeEffect c args = s.setFrame (.response (0x85#8 :: List.replicate (responseCount c) 0#8)) := by
  simp [State.takeEffect, decideReply, hm, hc, turnDown, responseBytes, statusCode]

/-- A long command that meets another in flight is turned down, and changes the frame alone (R182). -/
theorem State.takeEffect_of_collide {s : State} (hm : s.mode ≠ .boot) (hl : s.link.longCommand ≠ .none) {c : Command}
    (hc : isLong c = true) (args : List Byte) :
    s.takeEffect c args = s.setFrame (.response (0x81#8 :: List.replicate (responseCount c) 0#8)) := by
  simp [State.takeEffect, decideReply, hm, hc, hl, turnDown, responseBytes, statusCode]

end Sys2Proof.Machine
end

