-- ==== Sys2Proof/Laws/MapStore.lean ====
section
/-!
SUPPORT. The job of the map store: when one runs, and what its end leaves.
-/
namespace Sys2Proof.Machine

theorem MapStore.job_eq_none (m : MapStore) : m.job = none ↔ m.jobRunning = false := by
  cases h : m.jobRunning <;> simp [MapStore.job, h]

theorem MapStore.job_eq_some (m : MapStore) (j : PersistJob) : m.job = some j ↔ m.jobRunning = true ∧ m.jobData = j := by
  cases h : m.jobRunning <;> simp [MapStore.job, h]

@[simp] theorem MapStore.job_isSome (m : MapStore) : m.job.isSome = m.jobRunning := by
  cases h : m.jobRunning <;> simp [MapStore.job, h]

@[simp] theorem MapStore.job_isNone (m : MapStore) : m.job.isNone = !m.jobRunning := by
  cases h : m.jobRunning <;> simp [MapStore.job, h]

@[simp] theorem MapStore.reset_job : MapStore.reset.job = none := rfl

@[simp] theorem endJob_job (m : MapStore) : (endJob m).job = none := rfl
@[simp] theorem endJob_current (m : MapStore) : (endJob m).current = m.current := rfl
@[simp] theorem endJob_sequence (m : MapStore) : (endJob m).sequence = m.sequence := rfl
@[simp] theorem endJob_persistAgain (m : MapStore) : (endJob m).persistAgain = m.persistAgain := rfl
@[simp] theorem endJob_saveRequest (m : MapStore) : (endJob m).saveRequest = m.saveRequest := rfl

/-- Entry into FAULT leaves no job and none to start (R154). -/
theorem storeInFault_job (m : MapStore) :
    (storeInFault m).job = none ∧ (storeInFault m).startDue = false ∧ (storeInFault m).saveRequest = .none := by
  unfold storeInFault
  cases h : m.jobRunning <;> simp [MapStore.job, h, endJob]

end Sys2Proof.Machine
end

