-- ==== Sys2Proof/Laws/Memory.lean ====
section
/-!
SUPPORT. The PNV's array: a read after a write, and that every operation keeps the canonical form.
-/
namespace Sys2Proof.Machine

/-- A written byte is read back. -/
theorem readCell_writeCell_self (c : List Host.Cell) (a : Nat) (v : Byte) (h : c.Pairwise (fun x y => x.1 < y.1)) :
    readCell (writeCell c a v) a = v := by
  induction c with
  | nil => by_cases hv : v = Config.unwrittenByte <;> simp [writeCell, readCell, hv]
  | cons x rest ih =>
    obtain ⟨k, b⟩ := x
    have hr := List.pairwise_cons.mp h
    have absent : ∀ c : List Host.Cell, (∀ y ∈ c, a < y.1) → readCell c a = Config.unwrittenByte := by
      intro c hc
      induction c with
      | nil => rfl
      | cons y c ihc =>
        have := hc y (by simp)
        simp only [readCell]
        rw [if_neg (by omega)]
        exact ihc fun z hz => hc z (by simp [hz])
    simp only [writeCell]
    split
    · rename_i hlt
      split
      · rename_i hv
        rw [hv]
        apply absent
        intro y hy
        rcases List.mem_cons.mp hy with rfl | hy
        · exact hlt
        · exact Nat.lt_trans hlt (hr.1 y hy)
      · simp [readCell]
    · split
      · rename_i hk
        split
        · rename_i hv
          rw [hv]
          apply absent
          intro y hy
          have := hr.1 y hy
          simp only at this
          omega
        · simp [readCell]
      · rename_i hk
        simp only [readCell]
        rw [if_neg (fun e => hk e.symm)]
        exact ih hr.2

/-- A write leaves every other address as it was. -/
theorem readCell_writeCell_of_ne (c : List Host.Cell) {a x : Nat} (v : Byte) (h : x ≠ a) :
    readCell (writeCell c a v) x = readCell c x := by
  induction c with
  | nil => by_cases hv : v = Config.unwrittenByte <;> simp [writeCell, readCell, hv, h.symm]
  | cons y rest ih =>
    obtain ⟨k, b⟩ := y
    simp only [writeCell]
    split
    · split
      · rfl
      · simp [readCell, h.symm]
    · split
      · rename_i hk
        subst hk
        split <;> simp [readCell, h.symm]
      · simp only [readCell, ih]

theorem mem_writeCell {c : List Host.Cell} {a : Nat} {v : Byte} {x : Host.Cell} (h : x ∈ writeCell c a v) :
    (x ∈ c ∨ x = (a, v)) ∧ (x = (a, v) → x ∈ c ∨ v ≠ Config.unwrittenByte) := by
  induction c with
  | nil =>
    simp only [writeCell] at h
    split at h
    · simp at h
    · simp at h; subst h; exact ⟨.inr rfl, fun _ => .inr ‹_›⟩
  | cons y rest ih =>
    obtain ⟨k, b⟩ := y
    simp only [writeCell] at h
    split at h
    · split at h
      · exact ⟨.inl h, fun _ => .inl h⟩
      · rename_i hv
        rcases List.mem_cons.mp h with rfl | h
        · exact ⟨.inr rfl, fun _ => .inr hv⟩
        · exact ⟨.inl h, fun _ => .inl h⟩
    · split at h
      · split at h
        · exact ⟨.inl (by simp [h]), fun _ => .inl (by simp [h])⟩
        · rename_i hv
          rcases List.mem_cons.mp h with rfl | h
          · exact ⟨.inr rfl, fun _ => .inr hv⟩
          · exact ⟨.inl (by simp [h]), fun _ => .inl (by simp [h])⟩
      · rcases List.mem_cons.mp h with rfl | h
        · exact ⟨.inl (by simp), fun _ => .inl (by simp)⟩
        · have := ih h
          exact ⟨this.1.imp (by simp +contextual) id, fun e => (this.2 e).imp (by simp +contextual) id⟩

/-- A write of one byte keeps the canonical form. -/
theorem writeCell_wf {c : List Host.Cell} (h : Memory.wf c) (a : Nat) (v : Byte) : Memory.wf (writeCell c a v) := by
  constructor
  · have hs := h.1
    clear h
    induction c with
    | nil => simp only [writeCell]; split <;> simp
    | cons y rest ih =>
      obtain ⟨k, b⟩ := y
      have hr := List.pairwise_cons.mp hs
      simp only [writeCell]
      split
      · rename_i hlt
        split
        · exact hs
        · refine List.pairwise_cons.mpr ⟨?_, hs⟩
          intro z hz
          rcases List.mem_cons.mp hz with rfl | hz
          · exact hlt
          · exact Nat.lt_trans hlt (hr.1 z hz)
      · split
        · rename_i hk
          subst hk
          split
          · exact hr.2
          · exact List.pairwise_cons.mpr ⟨hr.1, hr.2⟩
        · rename_i hlt hk
          refine List.pairwise_cons.mpr ⟨?_, ih hr.2⟩
          intro z hz
          rcases (mem_writeCell hz).1 with hz | rfl
          · exact hr.1 z hz
          · simp only
            omega
  · intro x hx
    rcases mem_writeCell hx with ⟨hx' | hx', hv⟩
    · exact h.2 x hx'
    · rcases hv hx' with hm | hv
      · exact h.2 x hm
      · rw [hx']; exact hv

/-- A write of a page keeps the canonical form. -/
theorem writeCells_wf {c : List Host.Cell} (h : Memory.wf c) (msize : BitVec 2) (page : Nat) (p : Page) :
    Memory.wf (writeCells c msize page p) := by
  unfold writeCells
  generalize List.finRange 64 = l
  induction l generalizing c with
  | nil => exact h
  | cons o l ih => exact ih (writeCell_wf h _ _)

/-- The end of a program writes its page and leaves the PNV in no program; without a program nothing changes. -/
theorem State.endProgramAt_spec (msize : BitVec 2) (r : ProgramResult) (s : State) :
    (s.pnv.busy = none ∧ s.endProgramAt msize r = s) ∨
      ∃ page latch, s.pnv.busy = some (page, latch) ∧
        s.endProgramAt msize r =
          s.setPnv { cells := writeCells s.pnv.cells msize page (programLeaves latch r), busy := none } := by
  unfold State.endProgramAt
  cases h : s.pnv.busy with
  | none => exact .inl ⟨rfl, rfl⟩
  | some q => exact .inr ⟨q.1, q.2, rfl, rfl⟩

/-- The end of a program keeps the canonical form. -/
theorem State.endProgramAt_wf {s : State} (h : Memory.wf s.pnv.cells) (msize : BitVec 2) (r : ProgramResult) :
    Memory.wf (s.endProgramAt msize r).pnv.cells := by
  rcases State.endProgramAt_spec msize r s with ⟨-, e⟩ | ⟨page, latch, -, e⟩ <;> rw [e]
  · exact h
  · simp only [State.setPnv_pnv]
    exact writeCells_wf h _ _ _

theorem State.endProgram_wf {s : State} (h : Memory.wf s.pnv.cells) (r : ProgramResult) :
    Memory.wf (s.endProgram r).pnv.cells := State.endProgramAt_wf h _ r

theorem State.endCutProgram_wf {s : State} (h : Memory.wf s.pnv.cells) (r : ProgramResult) :
    Memory.wf (s.endCutProgram r).pnv.cells := State.endProgramAt_wf h _ r

/-- A reset leaves the array as it is; it can take the program off that was being loaded, and draw one choice. -/
theorem State.cutOperation_spec (s : State) :
    (isProgramming s.port = false ∧ s.cutOperation = s) ∨
      (isProgramming s.port = true ∧ ∃ busy, (busy = s.pnv.busy ∨ busy = none) ∧
        s.cutOperation = (s.setPnv { s.pnv with busy := busy }).setChoices (s.choices + 1)) := by
  unfold State.cutOperation
  cases h : isProgramming s.port with
  | false => exact .inl ⟨rfl, rfl⟩
  | true =>
    refine .inr ⟨rfl, ?_⟩
    cases Config.latchLoadComplete s.choices with
    | true => exact ⟨s.pnv.busy, .inl rfl, rfl⟩
    | false => exact ⟨none, .inr rfl, rfl⟩

@[simp] theorem State.cutOperation_cells (s : State) : s.cutOperation.pnv.cells = s.pnv.cells := by
  rcases State.cutOperation_spec s with ⟨-, e⟩ | ⟨-, b, -, e⟩ <;> simp [e]

theorem State.startProgram_cells (s : State) (page : Nat) (p : Page) : (s.startProgram page p).pnv.cells = s.pnv.cells :=
  rfl

theorem State.reset_wf : Memory.wf State.reset.pnv.cells := by
  show Memory.wf []
  decide

/-- Where the physical page lies below P, its bytes stand at 64 successive addresses. -/
theorem pnvAddress_of_lt {msize : BitVec 2} {page : Nat} (h : page < pageCount msize) (o : Offset) :
    pnvAddress msize page o = page * 64 + o.val := by
  unfold pnvAddress
  have := o.isLt
  exact Nat.mod_eq_of_lt (by omega)

/-- An address outside the page written reads as before. -/
theorem readCell_writeCells_of_ne (c : List Host.Cell) (msize : BitVec 2) (page : Nat) (p : Page) {x : Nat}
    (h : ∀ o, pnvAddress msize page o ≠ x) : readCell (writeCells c msize page p) x = readCell c x := by
  unfold writeCells
  generalize List.finRange 64 = l
  induction l generalizing c with
  | nil => rfl
  | cons o l ih => rw [List.foldl_cons, ih, readCell_writeCell_of_ne _ _ (h o).symm]

/-- The page written reads back. -/
theorem readCell_writeCells_self {c : List Host.Cell} (hc : Memory.wf c) {msize : BitVec 2} {page : Nat}
    (h : page < pageCount msize) (p : Page) (o : Offset) :
    readCell (writeCells c msize page p) (pnvAddress msize page o) = p[o] := by
  unfold writeCells
  have key : ∀ (l : List Offset), l.Nodup → ∀ c, Memory.wf c → ((o ∈ l) ∨ readCell c (pnvAddress msize page o) = p[o]) →
      readCell (l.foldl (fun c o => writeCell c (pnvAddress msize page o) p[o]) c) (pnvAddress msize page o) = p[o] := by
    intro l
    induction l with
    | nil => intro _ c _ h; simpa using h
    | cons x l ih =>
      intro hn c hc hm
      have hn' := List.nodup_cons.mp hn
      rw [List.foldl_cons]
      by_cases hx : x = o
      · subst hx
        exact ih hn'.2 _ (writeCell_wf hc _ _) (.inr (readCell_writeCell_self _ _ _ hc.1))
      · refine ih hn'.2 _ (writeCell_wf hc _ _) ?_
        rcases hm with hm | hm
        · exact .inl ((List.mem_cons.mp hm).resolve_left (fun e => hx e.symm))
        · refine .inr ?_
          rw [readCell_writeCell_of_ne _ _ ?_]
          · exact hm
          · rw [pnvAddress_of_lt h, pnvAddress_of_lt h]
            exact fun e => hx (Fin.ext (by omega))
  exact key _ (List.nodup_finRange 64) c hc (.inl (List.mem_finRange o))

end Sys2Proof.Machine
end

