-- ==== Sys2Proof/Laws/Pages.lean ====
section
/-!
SUPPORT. Partly known pages: completion, the bytes of a full buffer, and when there is nothing to program.
-/
namespace Sys2Proof.Machine

/-- A completed page keeps its known bytes and takes the others (R88). -/
theorem completeWith_get (p : PartialPage) (m : Page) (o : Offset) : (completeWith p m)[o] = some (p[o].getD m[o]) := by
  show (Vector.ofFn fun o => some (p[o].getD m[o]))[o.val] = _
  rw [Vector.getElem_ofFn]

/-- A buffer that holds a page's byte at every offset is that page. -/
theorem definedBytes_of_full {p : PartialPage} {m : Page} (h : ∀ o : Offset, p[o] = some m[o]) : definedBytes p = m := by
  apply Vector.ext
  intro i hi
  have := h ⟨i, hi⟩
  simp only [definedBytes, Vector.getElem_ofFn]
  simp only [Fin.getElem_fin] at this ⊢
  rw [this]; rfl

/-- The byte of a buffer at an offset it knows. -/
theorem definedBytes_get {p : PartialPage} {o : Offset} {b : Byte} (h : p[o] = some b) : (definedBytes p)[o] = b := by
  show (Vector.ofFn fun o => p[o].getD (Config.undefinedByte o))[o.val] = _
  rw [Vector.getElem_ofFn]
  simp only [Fin.getElem_fin] at h ⊢
  rw [h]; rfl

/-- There is nothing to program exactly when the buffer equals the page read (R91). -/
theorem nothingToProgram_iff (r : CommitRecord) (p m : Page) : nothingToProgram r p m = true ↔ p = m := by
  unfold nothingToProgram differenceSet residue
  simp only [Bool.and_eq_true, offsetsEmpty_iff]
  constructor
  · rintro ⟨h1, h2⟩
    apply Vector.ext
    intro i hi
    have a := h1 ⟨i, hi⟩
    have b := h2 ⟨i, hi⟩
    simp at a b
    by_cases hc : r.changeSet[i] = true
    · exact a hc
    · simp at hc; exact b hc
  · rintro rfl
    constructor <;> intro k <;> simp

end Sys2Proof.Machine
end

