-- ==== Sys2Proof/WellFormed.lean ====
section
/-!
DEFINITION. Which command terms stand for a row of the table. The operands' types already bound every address,
index, byte and strap code, so one check is left.
-/
namespace Sys2Proof

/-- The command codes of the table of R180. -/
def commandCodes : List Byte :=
  [0x01#8, 0x02#8, 0x10#8, 0x11#8, 0x12#8, 0x18#8, 0x19#8, 0x20#8, 0x21#8, 0x30#8, 0x31#8, 0x40#8, 0x41#8, 0x42#8,
   0x50#8, 0x51#8, 0x52#8]

/-- UNKNOWN_COMMAND is the row of a command byte that is not in the table of R180. -/
def Instr.wellFormed : Instr → Bool
  | .unknownCommand code => !commandCodes.contains code
  | _ => true

end Sys2Proof
end

