-- ==== Sys2Proof/Tests/Slice0.lean ====
section
/-!
SUPPORT. The model's own tests, each on one command, and for every statement with hypotheses a state that meets them,
clause by clause. Expected values come from the manual's tables and worked examples.
-/
namespace Sys2Proof.Tests
open Sys2Proof.Machine

set_option Elab.async false

/-! ### Small states -/

/-- A part in RUN after a boot with MSIZE 0 and SPARE 0, nothing written yet. -/
def running : State :=
  { State.reset with
    inReset := false
    mode := .run
    boot := { stage := .ended, pagesA := [], pagesB := [] }
    remap := { built := true, spares := 32, capacity := 4030, records := [], lowReport := .clear } }

/-- An entry of page 0 with byte 05h written at offset 0. -/
def entryIn (x : EntryState) : Entry :=
  { Entry.freed with
    state := x, page := some 0, image := (Vector.replicate 64 none).set 0 (some 5#8)
    changed := (Vector.replicate 64 false).set 0 true, quiet := some 40, age := some 1000, ageStart := some 0#32 }

/-- A fully known entry of page 0 without changes. -/
def cleanEntry : Entry := { Entry.freed with state := .clean, page := some 0, image := Vector.replicate 64 (some 5#8) }

/-- `running` with entry 0 as given, and the lists that go with its state. -/
def withEntry (e : Entry) : State :=
  { running with
    table :=
      { entries := running.table.entries.set 0 e
        dueQueue := if e.state = .due then [0] else []
        cleanList := if e.state = .clean then [0] else [] } }

/-- A host access held at address 0. -/
def holding (x : Access) (w : Wait) (left : Nat) (s : State) : State :=
  { s with
    host :=
      { bus := .pending, pend := some { access := x, addr := 0, stallLimit := 50, stallLeft := left, wait := w }
        readByte := none, strobe := none } }

/-- A commit of entry 0 with the same byte at all 64 offsets of its buffer. -/
def commit (b : Byte) (target : Target) (trial : Bool) (attempts : Nat) : CommitRecord :=
  { entry := 0, page := 0, buffer := Vector.replicate 64 (some b), snapKnown := Vector.replicate 64 true
    changeSet := (Vector.replicate 64 false).set 0 true, target := target, targetPage := 66, trial := trial
    attempts := attempts, attemptLimit := 2 }

/-- A part in the middle of a commit. -/
def committing (r : CommitRecord) (stage : Stage) (port : PortState) : State :=
  { withEntry (entryIn .committing) with ce := { stage := stage, record := some r }, port := port }

/-- A map and a configuration as a fresh boot has them, for a size code. -/
def freshMap (code : Nat) : StoredMap :=
  { sizeCode := code, sequence := 58#32, spares := 32, records := [], regions := RegionTable.reset, cfg := Settings.reset }

/-- A persist job at its header page, with the same byte at every place of its image. -/
def job (b : Byte) (step : JobStep) : PersistJob :=
  { target := .a, sequence := 58#32, page := 0, step := step, image := [Vector.replicate 64 b] }

/-- A part with a job, and the port as given. -/
def persisting (j : PersistJob) (port : PortState) : State :=
  { running with store := { running.store with jobRunning := true, jobData := j }, port := port }

/-- A part in a stage of boot. -/
def booting (stage : BootStage) : State :=
  { State.reset with inReset := false, boot := { stage := stage, pagesA := [], pagesB := [] } }

/-- A frame in a state. -/
def framed (f : Frame) (s : State) : State := { s with link := { s.link with lcs := true, frame := f } }

/-- A state in another mode. -/
def inMode (m : Mode) (s : State) : State := { s with mode := m }

theorem rest_of {s : State} (h : s.inReset = false ∧ s.due = none) : s.atRest := h

/-! ### Well-formed terms and words -/

theorem test_unknown_command_of_a_known_code_is_refused : (Instr.unknownCommand 0x01#8).wellFormed = false := by decide

theorem test_unknown_command_of_an_unknown_code_is_accepted : (Instr.unknownCommand 0x03#8).wellFormed = true := by
  decide

theorem test_no_word_spells_a_command : decodeTableWord 8 0x01 = none := by decide

/-! ### Values from the manual -/

/-- R147: the CRC of the ASCII digits 1 to 9 is 29B1h. -/
theorem test_crc_of_the_digits :
    crc16 [0x31#8, 0x32#8, 0x33#8, 0x34#8, 0x35#8, 0x36#8, 0x37#8, 0x38#8, 0x39#8] = 0x29B1#16 := by decide +kernel

/-- R162: 58 is newer than 57, 0 is newer than FFFFFFFFh, and neither of two numbers 2^31 apart is newer. -/
theorem test_newer_sequence :
    newerSequence 58#32 57#32 = true ∧ newerSequence 0#32 0xFFFFFFFF#32 = true ∧
      newerSequence 0x80000000#32 0#32 = false ∧ newerSequence 0#32 0x80000000#32 = false ∧
      newerSequence 7#32 7#32 = false := by decide

/-- The region table of R51's example. -/
def exampleRegions : RegionTable :=
  { dflt := PolicyRecord.reset
    region :=
      #v[{ first := 100, count := 4, record := { policy := .through, quiet := 5, age := 50 } },
        { first := 96, count := 16, record := { policy := .locked, quiet := 40, age := 1000 } },
        { first := 300, count := 0, record := { policy := .through, quiet := 1, age := 10 } },
        { first := 2000, count := 256, record := { policy := .absorb, quiet := 200, age := 2000 } }] }

/-- R51's example: pages 101, 104, 98, 111, 300, 50 and 2100. -/
theorem test_region_example :
    resolvePolicy exampleRegions 101 = { policy := .through, quiet := 5, age := 50 } ∧
      (resolvePolicy exampleRegions 104).policy = .locked ∧ (resolvePolicy exampleRegions 98).policy = .locked ∧
      (resolvePolicy exampleRegions 111).policy = .locked ∧ resolvePolicy exampleRegions 300 = PolicyRecord.reset ∧
      resolvePolicy exampleRegions 50 = PolicyRecord.reset ∧
      resolvePolicy exampleRegions 2100 = { policy := .absorb, quiet := 200, age := 2000 } := by decide

/-- R4: P 4096 and S 32 give Lcap 4030, and its last page has the PNV's last page as its home. -/
theorem test_capacity : logicalCapacity 0#2 32 = 4030 ∧ homePage 32 4029 = 4095 := by decide

/-- R3: the four page counts. -/
theorem test_page_counts :
    pageCount 0#2 = 4096 ∧ pageCount 1#2 = 8192 ∧ pageCount 2#2 = 16384 ∧ pageCount 3#2 = 32768 := by decide

/-! ### One command on a small state -/

/-- The state that a command leaves. -/
def after (c : Instr) (s : State) : State :=
  match exec c s with
  | .next t => t
  | _ => s

/-- R33: a write to page 1, offset 2, takes entry 0, with 40 ms and 1000 ms. -/
theorem test_host_write_admits :
    let t := after (.hostWrite 66 0xA5#8) running
    let e := t.table.entries[0]
    e.state = .settling ∧ e.page = some 1 ∧ e.image[2] = some 0xA5#8 ∧ e.image[0] = none ∧ e.quiet = some 40 ∧
      e.age = some 1000 ∧ t.events.counters[2] = 1#32 ∧ t.host.bus = .ended := by decide +kernel

/-- R38, R85: a THROUGH write is DUE at once, and the engine starts. -/
theorem test_host_write_through_promotes :
    let s := { running with regions := { running.regions with dflt := { policy := .through, quiet := 5, age := 50 } } }
    let t := after (.hostWrite 0 1#8) s
    t.table.entries[0].state = .due ∧ t.table.dueQueue = [0] ∧ t.ce.stage = .starting := by decide +kernel

/-- R35, R45: a byte merged is the byte read. -/
theorem test_host_read_hits :
    (after (.hostRead 0) (withEntry (entryIn .settling))).host.readByte = some 5#8 := by decide +kernel

/-- R2, R71: the first address above the space reads as the filler byte, with RANGE. -/
theorem test_host_read_out_of_range :
    let t := after (.hostRead 257920) running
    t.host.readByte = some 0xFF#8 ∧ flagIn t.events.flags .range = true := by decide +kernel

/-- R29, R86: the snapshot of a DUE entry; its home page is 34 + 32 + 0. -/
theorem test_snapshot :
    let t := after .snapshot { withEntry (entryIn .due) with ce := { stage := .starting, record := none } }
    t.table.entries[0].state = .committing ∧ t.port = .reading (.fill 66) ∧ t.ce.stage = .filling := by decide +kernel

/-- R43: a commit whose page did not change meanwhile leaves its entry CLEAN. -/
theorem test_verify_match_cleans :
    let s := committing (commit 0xFF#8 .home false 1) .verifying (.reading (.verify 66))
    let t := after .verifyComplete (s.setTable (updateEntry s.table 0 fun e => { e with changed := noOffsets }))
    t.table.entries[0].state = .clean ∧ t.table.cleanList = [0] ∧ t.events.counters[3] = 1#32 := by decide +kernel

/-- R98: after the last attempt at HOME the commit goes on to spare 0, physical page 34. -/
theorem test_exhausted_home_goes_to_spare :
    let t := after .verifyComplete (committing (commit 0#8 .home false 2) .verifying (.reading (.verify 66)))
    (t.ce.record.map (·.targetPage)) = some 34 ∧ t.ce.stage = .awaitProgram ∧ t.remap.records = [] := by decide +kernel

/-- R202: RST# with one dirty entry counts one loss. -/
theorem test_rst_counts_loss :
    let t := after .rst (withEntry (entryIn .settling))
    t.events.resetLoss = 1#16 ∧ t.events.lossPending = true ∧ t.inReset = true := by decide +kernel

/-- R168: PFW# in RUN promotes, and the flush is not done. -/
theorem test_power_fail_promotes :
    let t := after .pfwAsserted (withEntry (entryIn .settling))
    t.mode = .holdup ∧ t.table.dueQueue = [0] ∧ t.flush = .flushing := by decide +kernel

/-- R118, R122: the program limit runs out. -/
theorem test_program_limit_expiry :
    let t := after .programLimitExpiry
      (committing (commit 0#8 .home false 1) .programming (.programming .commitEngine 66 0))
    t.mode = .fault ∧ t.table.entries[0].state = .pinned ∧ flagIn t.events.flags .mfault = true ∧
      (t.events.capture.map (·.addr)) = some 4224#24 := by decide +kernel

/-- A PNV that lists nothing, with a program of zeros given to it. -/
def busyWith (page : Nat) : Pnv := { cells := [], busy := some (page, Vector.replicate 64 0#8) }

/-- A part in a stage of boot, the PNV still in a program that a reset cut off. -/
def bootingBusy (stage : BootStage) (page : Nat) : State := { booting stage with pnv := busyWith page }

/-- R158, R124: CLOCK ends; with MRDY high the header of copy A is read at once, with MRDY low READY waits 25 ticks for
its rise, and its timeout needs MRDY low. -/
theorem test_boot_stages :
    (after .clockStageEnd (booting (.clock 0))).port = .reading (.load 0) ∧
      (after .clockStageEnd (bootingBusy (.clock 0) 5)).boot.stage = .ready 25 ∧
      (after (.readyMrdyHigh .took) (bootingBusy (.ready 25) 5)).port = .reading (.load 0) ∧
      (after .readyTimeout (booting (.ready 0))).mode = .boot ∧
      (after .readyTimeout (bootingBusy (.ready 0) 5)).mode = .fault := by decide +kernel

/-- R111, R125: a program of page 4096 that was cut off is written there, although the straps now say 4096 pages. -/
theorem test_cut_program_keeps_its_page :
    let t := after (.readyMrdyHigh .took) (bootingBusy (.ready 9) 4096)
    readCell t.pnv.cells (4096 * 64) = 0#8 ∧ readCell t.pnv.cells 0 = 0xFF#8 := by decide +kernel

/-- R63: HWR# joins an ended read: the arrival condition is false, and HD still carries the byte; HCS# high releases it. -/
theorem test_both_strobes_keep_the_read_byte :
    let s := after (.hostWrite 0 7#8) (after (.hostRead 0) (withEntry (entryIn .settling)))
    s.host.bus = .idle ∧ hostData s = .driven 5#8 ∧ s.events.counters[0] = 0#32 ∧
      hostData (after .arrivalConditionFalse s) = .notDriven := by decide +kernel

/-- R164: with no valid copy the map is fresh, with the strap's 32 spares. -/
theorem test_fresh_boot :
    let t := after .loadPageReadComplete
      { booting (.load .b 0) with port := .reading (.load 17), boot :=
          { stage := .load .b 0, pagesA := [Vector.replicate 64 0xFF#8], pagesB := [] } }
    t.mode = .run ∧ t.remap.spares = 32 ∧ t.remap.capacity = 4030 ∧ flagIn t.events.flags .fresh = true ∧
      t.store.status = .pending := by decide +kernel

/-- R153, R155: the verify match of the header ends the job. -/
theorem test_job_succeeds :
    let t := after .mapStoreVerifyComplete (persisting (job 0xFF#8 .verify) (.reading (.mapVerify 0)))
    t.store.current = some .a ∧ t.store.sequence = 58#32 ∧ t.store.status = .saved ∧
      t.store.job = none ∧ t.store.jobData.image = [] := by decide +kernel

/-- R184: the identification bytes. -/
theorem test_get_id :
    (after .getId (framed .command running)).link.frame = .response [0x80#8, 0x47#8, 0x40#8, 0x01#8] := by
  decide +kernel

/-- R184: GET_STATUS after a fresh boot with one entry SETTLING: 19 bytes after the status. -/
theorem test_get_status :
    (after .getStatus (framed .command (withEntry (entryIn .settling)))).link.frame =
      .response [0x80#8, 1#8, 1#8, 1#8, 0#8, 0xFF#8, 0#8, 32#8, 0#8, 0#8, 0#8, 0#8, 0#8, 0#8, 0#8, 0#8, 0#8, 0#8, 0#8,
        0#8] := by decide +kernel

/-- R180: a byte that names no command. -/
theorem test_unknown_command :
    (after (.unknownCommand 0x03#8) (framed .command running)).link.frame = .response [0x84#8] := by decide +kernel

/-- R191: a budget of 0 is outside its range, and 32 is inside. -/
theorem test_set_config_budget :
    (after (.setConfig 0#8) (framed (.arguments .setConfig [0#8, 0#8]) running)).link.frame = .response [0x82#8] ∧
      (after (.setConfig 32#8) (framed (.arguments .setConfig [0#8, 0#8]) running)).cfg.budget = 32 := by
  decide +kernel

/-- R188: page 0 without an entry, at its home page 66. -/
theorem test_query_page :
    (after (.queryPage 0#8) (framed (.arguments .queryPage [0#8]) running)).link.frame =
      .response [0x80#8, 0xFF#8, 0#8, 0#8, 0#8, 0#8, 66#8, 0#8] := by decide +kernel

/-- R193: SYNC with one SETTLING entry answers 1 marked, 0 pinned. -/
theorem test_sync :
    let t := after .sync (framed .command (withEntry (entryIn .settling)))
    t.link.frame = .response [0x80#8, 1#8, 0#8] ∧ t.link.longCommand = .sync ∧ t.table.dueQueue = [0] := by
  decide +kernel

/-- R196: REARM promotes the one PINNED entry. -/
theorem test_rearm :
    let t := after .rearm (framed .command (withEntry (entryIn .pinned)))
    t.link.frame = .response [0x80#8, 1#8] ∧ t.table.entries[0].state = .due := by decide +kernel

/-- R21: the tenth tick raises the time stamp and counts the deadlines down. -/
theorem test_tenth_tick :
    let s := withEntry (entryIn .settling)
    let t := after .timebaseTick { s with time := { phase := 9, stamp := 0xFFFFFFFF#32 } }
    t.time = { phase := 0, stamp := 0#32 } ∧ t.table.entries[0].quiet = some 39 := by decide +kernel

/-! ### The witnesses of the statements' hypotheses, in the order of the statements -/

theorem witness_StepRunsFrontCommand :
    ({ running with pending := [.getId, .sync] }).pending = .getId :: [.sync] ∧ running.pending = [] := by decide +kernel

/-- `running` meets the laws of the settle table. -/
theorem running_entries (i : Index) : running.table.entries[i] = Entry.freed := by
  show (Vector.replicate 32 Entry.freed)[i.val] = _
  rw [Vector.getElem_replicate]

theorem running_table_law : TableLaw running where
  paged i h := by rw [running_entries] at h; exact absurd rfl h
  distinct i j h := by rw [running_entries] at h; exact absurd rfl h
  free i _ := running_entries i
  known i o h := by
    rw [running_entries] at h
    have : (Entry.freed.changed[o]) = false := by
      show (Vector.replicate 64 false)[o.val] = _
      rw [Vector.getElem_replicate]
    rw [this] at h
    cases h
  clean i h := by rw [running_entries] at h; cases h
  changed i h := by rw [running_entries] at h; rcases h with h | h | h <;> cases h
  queue := ⟨List.nodup_nil, fun i => ⟨fun h => by simp [running, State.reset, SettleTable.reset] at h, fun h => by
    rw [running_entries] at h; cases h⟩⟩
  cleans := ⟨List.nodup_nil, fun i => ⟨fun h => by simp [running, State.reset, SettleTable.reset] at h, fun h => by
    rw [running_entries] at h; cases h⟩⟩
  budget := by decide +kernel
  committing i := by
    constructor
    · intro h; rw [running_entries] at h; cases h
    · rintro ⟨_, h, _⟩; cases h
  change _ h := by cases h
  filled _ h := by cases h
  stages := by decide +kernel
  reading _ h := by cases h
  programming _ _ h := by cases h
  boot h := by rcases h with h | h <;> first | cases h | exact absurd rfl h

theorem witness_OutsideRowsWaitForTheStepToComplete :
    (followOnOf .rst = none ∧ Instr.rst ≠ .timebaseTick ∧ running.inReset = false ∧ running.settled.due = none) ∧
      TableLaw running := ⟨by decide +kernel, running_table_law⟩

theorem witness_ArbiterGrantsHostThenMapStoreThenCommit :
    (let s := holding .read .claim 9 running
     s.port = .idle ∧ (waitingRead s.host).isSome) ∧
    (let s := persisting (job 0#8 .program) .idle
     s.port = .idle ∧ waitingRead s.host = none ∧ s.store.job.isSome) ∧
    (let s := { withEntry (entryIn .due) with ce := { stage := .starting, record := none } }
     s.port = .idle ∧ waitingRead s.host = none ∧ s.store.job = none ∧ s.ce.stage = .starting ∧ s.table.dueQueue ≠ []) ∧
    (let s := committing (commit 0#8 .home false 0) .awaitProgram .idle
     s.port = .idle ∧ waitingRead s.host = none ∧ s.store.job = none ∧ s.ce.stage = .awaitProgram ∧ s.ce.record ≠ none) ∧
    (let s := committing (commit 0#8 .home false 1) .awaitVerify .idle
     s.port = .idle ∧ waitingRead s.host = none ∧ s.store.job = none ∧ s.ce.stage = .awaitVerify ∧ s.ce.record ≠ none) ∧
    (running.port = .idle ∧ waitingRead running.host = none ∧ running.store.job = none ∧ running.ce.stage = .idle) := by
  decide +kernel

theorem witness_ResetRowsSetEveryBlock :
    running.atRest ∧ State.reset.inReset = true ∧ ¬ assertsReset (.hostRead 0) ∧
      ∀ m p, Instr.hostRead 0 ≠ .releaseFromReset m p := by
  refine ⟨by decide +kernel, by decide +kernel, ?_, ?_⟩
  · rintro (h | h) <;> cases h
  · intro m p h; cases h

/-- A row of an expiry answers a next state. -/
theorem exec_expiryRow_after (e : Expiry) (s : State) : exec (expiryRow e) s = .next (after (expiryRow e) s) := by
  cases e <;>
    simp only [after, exec, expiryRow, execQuietDeadlineExpiry, execAgeDeadlineExpiry, execStallExpiry,
      execProgramLimitExpiry, execReadyTimeout, State.event] <;>
    cases s.inReset <;> rfl

/-- The states that tick with an expiry waiting: a quiet and an age deadline of the last entry (both before any other
expiry), a stall, the program limit, READY's interval. -/
def expiring : Expiry → State
  | .quiet i =>
    { running with
      table := { running.table with entries := running.table.entries.set i { entryIn .pinned with quiet := some 0, age := some 0 } } }
  | .age i =>
    { running with
      table := { running.table with entries := running.table.entries.set i { entryIn .pinned with age := some 0 } } }
  | .stall => holding .read .granted 0 { running with port := .reading (.hostByte 66 0) }
  | .programLimit => committing (commit 0#8 .home false 1) .programming (.programming .commitEngine 66 0)
  | .ready => bootingBusy (.ready 0) 5

theorem expiring_waits :
    ∀ e ∈ [Expiry.quiet 31, .age 31, .stall, .programLimit, .ready], (expiring e).atRest ∧ (expiring e).expiry = some e := by
  decide +kernel

/-- The five expiries, waiting; what is left once they are taken; the boundaries of the order's clauses. -/
theorem witness_TickTakesWaitingExpiries :
    (∀ e ∈ [Expiry.quiet 31, .age 31, .stall, .programLimit, .ready],
      (expiring e).atRest ∧ (expiring e).expiry = some e ∧ ∃ u, exec (expiryRow e) (expiring e) = .next u) ∧
    (∀ e ∈ [Expiry.quiet 31, .age 31, .stall, .programLimit, .ready],
      let u := State.settleForTick 3 (expiring e)
      (expiring e).inReset = false ∧ 3 ≤ Config.tickBound ∧ u.due = none ∧ u.expiry = none) ∧
    (∀ e ∈ [Expiry.quiet 31, .age 31],
      let s := expiring e
      (s.table.entries[(31 : Index)].quiet = some 0 ∨ s.table.entries[(31 : Index)].age = some 0) ∧
        ∀ j : Index, j < 31 → s.table.entries[j].quiet ≠ some 0 ∧ s.table.entries[j].age ≠ some 0) ∧
    (∀ e ∈ [Expiry.stall, .programLimit, .ready], ∀ j : Index,
      (expiring e).table.entries[j].quiet ≠ some 0 ∧ (expiring e).table.entries[j].age ≠ some 0) ∧
    (running.expiry = none ∧ (booting (.ready 0)).expiry = none) :=
  ⟨fun e h => ⟨(expiring_waits e h).1, (expiring_waits e h).2, _, exec_expiryRow_after e _⟩, by decide +kernel,
    by decide +kernel, by decide +kernel, by decide +kernel⟩

theorem witness_TickCountsDownEveryInterval :
    (let s := { running with time := { phase := 8, stamp := 0#32 } }
     s.atRest ∧ s.expiry = none ∧ s.time.phase + 1 < 10) ∧
    (let s := { committing (commit 0#8 .home false 1) .programming (.programming .commitEngine 66 25) with
                time := { phase := 9, stamp := 0#32 } }
     s.atRest ∧ s.expiry = none ∧ 10 ≤ s.time.phase + 1 ∧ s.port = .programming .commitEngine 66 25) ∧
    (let s := { booting (.clock 16) with time := { phase := 9, stamp := 0#32 } }
     s.atRest ∧ s.expiry = none ∧ 10 ≤ s.time.phase + 1 ∧ s.boot.stage = .clock 16 ∧ s.port = .idle) ∧
    (let s := { booting (.ready 1) with time := { phase := 9, stamp := 0#32 } }
     s.atRest ∧ s.expiry = none ∧ 10 ≤ s.time.phase + 1 ∧ s.boot.stage = .ready 1) ∧
    (let s := { running with time := { phase := 9, stamp := 0#32 } }
     s.atRest ∧ s.expiry = none ∧ 10 ≤ s.time.phase + 1 ∧ s.boot.stage = .ended ∧ s.port = .idle) := by decide +kernel

/-- `running` with every page LOCKED. -/
def lockedAll : State :=
  { running with regions := { running.regions with dflt := { policy := .locked, quiet := 40, age := 1000 } } }

theorem witness_RefusedHostWriteLeavesOnlyItsTrace :
    ((inMode .holdup running).atRest ∧ (inMode .holdup running).host.bus = .idle) ∧
    (running.atRest ∧ running.host.bus = .idle ∧ running.mode = .run ∧
      running.remap.capacity * 64 ≤ (257920#21 : HostAddr).toNat) ∧
    (lockedAll.atRest ∧ lockedAll.host.bus = .idle ∧ lockedAll.mode = .run ∧
      (257919#21 : HostAddr).toNat < lockedAll.remap.capacity * 64 ∧
      (resolvePolicy lockedAll.regions ((257919#21 : HostAddr).toNat / 64)).policy = .locked) := by decide +kernel

theorem some_of_isSome {α : Type} {x : Option α} (h : x.isSome = true) : ∃ y, x = some y :=
  Option.isSome_iff_exists.mp h

theorem witness_AcceptedHostWriteReachesTheTable :
    (running.atRest ∧ running.host.bus = .idle ∧ running.mode = .run ∧
      (257919#21 : HostAddr).toNat < running.remap.capacity * 64 ∧
      (resolvePolicy running.regions ((257919#21 : HostAddr).toNat / 64)).policy ≠ .locked) ∧
    ∃ r, tableWrite running.cfg.budget running.time.stamp ((257919#21 : HostAddr).toNat / 64) (pageOffset 257919#21) 7#8
      (resolvePolicy running.regions ((257919#21 : HostAddr).toNat / 64)) running.table = some r :=
  ⟨by decide +kernel, some_of_isSome (by decide +kernel)⟩

/-- A full budget of one. -/
def fullBudget : State := { withEntry (entryIn .settling) with cfg := { running.cfg with budget := 1 } }

theorem witness_HeldAccessFillsThePendingRecord :
    ((booting (.clock 9)).atRest ∧ (booting (.clock 9)).host.bus = .idle ∧ (booting (.clock 9)).mode = .boot) ∧
    (fullBudget.atRest ∧ fullBudget.host.bus = .idle ∧ fullBudget.mode = .run ∧
      (64#21 : HostAddr).toNat < fullBudget.remap.capacity * 64 ∧
      (resolvePolicy fullBudget.regions ((64#21 : HostAddr).toNat / 64)).policy ≠ .locked ∧
      (∀ i, entryFor fullBudget.table ((64#21 : HostAddr).toNat / 64) = some i →
        fullBudget.table.entries[i].state = .clean) ∧
      fullBudget.cfg.budget ≤ dirtyCount fullBudget.table) ∧
    (∀ b ∈ [BusState.ended, .pending], ∀ k ∈ [some Strobe.read, some .write, some .both, none],
      let s := { running with host := { running.host with bus := b, strobe := k } }
      s.atRest ∧ s.host.bus ≠ .idle) ∧
    (running.atRest ∧ running.host.bus = .idle ∧ running.mode = .run ∧
      (0#21 : HostAddr).toNat < running.remap.capacity * 64 ∧
      tableHit running.table ((0#21 : HostAddr).toNat / 64) (pageOffset 0#21) = none) := by decide +kernel

/-- All 32 entries CLEAN, entry 3 the least recently used. -/
def cleanTable : SettleTable :=
  { entries := Vector.ofFn fun i => { cleanEntry with page := some i.val }
    dueQueue := [], cleanList := 3 :: ((List.finRange 32).filter (· != 3)) }

theorem witness_AdmissionAndRedirtyingOpenAnEntry :
    (let t := SettleTable.reset
     entryFor t 9 = none ∧ dirtyCount t < 1 ∧ t.entries[(0 : Index)].state = .free ∧
       ∀ j : Index, j < 0 → t.entries[j].state ≠ .free) ∧
    (entryFor cleanTable 99 = none ∧ dirtyCount cleanTable < 1 ∧
      (∀ j : Index, cleanTable.entries[j].state ≠ .free) ∧ cleanTable.cleanList.head? = some 3) ∧
    (entryFor cleanTable 3 = some 3 ∧ cleanTable.entries[(3 : Index)].state = .clean ∧ dirtyCount cleanTable < 1) := by
  decide +kernel

theorem witness_WriteMergesIntoDirtyEntry :
    (entryFor (withEntry (entryIn .settling)).table 0 = some 0 ∧
      (withEntry (entryIn .settling)).table.entries[(0 : Index)].state = .settling) ∧
    (entryFor (withEntry (entryIn .due)).table 0 = some 0 ∧
      (withEntry (entryIn .due)).table.entries[(0 : Index)].state = .due) ∧
    (entryFor (withEntry (entryIn .committing)).table 0 = some 0 ∧
      (withEntry (entryIn .committing)).table.entries[(0 : Index)].state = .committing) ∧
    (entryFor (withEntry (entryIn .pinned)).table 0 = some 0 ∧
      (withEntry (entryIn .pinned)).table.entries[(0 : Index)].state = .pinned) ∧
    PolicyRecord.reset.policy ≠ .through ∧
    ({ PolicyRecord.reset with policy := .through } : PolicyRecord).policy = .through := by decide +kernel

/-- At the first page of region 1 (in no lower region), at its last, and at a page of no region. -/
theorem witness_LowestEnabledRegionDecides :
    (let g := exampleRegions.region
     (∀ page : Fin 2, g[(1 : Fin 4)].first ≤ 96 + 15 * page.val ∧
        96 + 15 * page.val < g[(1 : Fin 4)].first + g[(1 : Fin 4)].count) ∧
      (∀ j : Fin 4, j < 1 → ¬ (g[j].first ≤ 96 ∧ 96 < g[j].first + g[j].count) ∧
        ¬ (g[j].first ≤ 111 ∧ 111 < g[j].first + g[j].count))) ∧
    (∀ i : Fin 4, ¬ (exampleRegions.region[i].first ≤ 300 ∧
      300 < exampleRegions.region[i].first + exampleRegions.region[i].count)) := by decide +kernel

theorem witness_WaitingWriteIsTakenAgain :
    (let s := holding (.write 7#8) .admission 9 lockedAll
     s.due = some .waitingWriteTakenAgain ∧ waitingWrite s.host = some (0, 7#8) ∧
       (resolvePolicy s.regions ((0 : HostAddr).toNat / 64)).policy = .locked) ∧
    (let s := holding (.write 7#8) .admission 9 running
     s.due = some .waitingWriteTakenAgain ∧ waitingWrite s.host = some (0, 7#8) ∧
       (resolvePolicy s.regions ((0 : HostAddr).toNat / 64)).policy ≠ .locked) ∧
    ∃ r, tableWrite running.cfg.budget running.time.stamp ((0 : HostAddr).toNat / 64) (pageOffset 0) 7#8
      (resolvePolicy running.regions ((0 : HostAddr).toNat / 64)) running.table = some r :=
  ⟨by decide +kernel, by decide +kernel, some_of_isSome (by decide +kernel)⟩

theorem witness_PressurePromotesOldestSettlingEntry :
    (holding (.write 7#8) .admission 9 fullBudget).due = some .pressure := by decide +kernel

theorem witness_DeadlineExpiryActsByEntryState :
    (∀ x : Fin 2, let e := if x = 0 then { entryIn .settling with quiet := some 0 } else { entryIn .settling with age := some 0 }
      (withEntry e).atRest ∧ (withEntry e).table.entries[(0 : Index)].state = .settling) ∧
    (withEntry { entryIn .settling with quiet := some 0 }).table.entries[(0 : Index)].quiet = some 0 ∧
    (withEntry { entryIn .settling with age := some 0 }).table.entries[(0 : Index)].age = some 0 ∧
    (let s := { committing (commit 0#8 .home false 0) .filling (.reading (.fill 66)) with
                table := (withEntry { entryIn .committing with quiet := some 0, age := some 0 }).table }
     s.atRest ∧ s.table.entries[(0 : Index)].quiet = some 0 ∧ s.table.entries[(0 : Index)].age = some 0 ∧
       s.table.entries[(0 : Index)].state = .committing) ∧
    (let s := { withEntry { entryIn .due with quiet := some 0, age := some 0 } with port := .reading (.hostByte 66 0) }
     s.atRest ∧ s.table.entries[(0 : Index)].quiet = some 0 ∧ s.table.entries[(0 : Index)].age = some 0 ∧
       s.table.entries[(0 : Index)].state = .due) := by decide +kernel

theorem witness_HostReadEndsAsItArrives :
    (let s := withEntry cleanEntry
     s.atRest ∧ s.host.bus = .idle ∧ s.mode ≠ .boot ∧ (63#21 : HostAddr).toNat < s.remap.capacity * 64 ∧
       entryFor s.table ((63#21 : HostAddr).toNat / 64) = some 0 ∧
       s.table.entries[(0 : Index)].image[pageOffset 63#21] = some 5#8) ∧
    (running.atRest ∧ running.host.bus = .idle ∧ running.mode ≠ .boot ∧
      running.remap.capacity * 64 ≤ (257920#21 : HostAddr).toNat) ∧
    (let s := inMode .fault running
     s.atRest ∧ s.host.bus = .idle ∧ s.mode = .fault ∧ (0#21 : HostAddr).toNat < s.remap.capacity * 64 ∧
       tableHit s.table ((0#21 : HostAddr).toNat / 64) (pageOffset 0#21) = none) := by decide +kernel

/-- The read that `holding` holds at address 0. -/
def heldRead (w : Wait) : PendingAccess := { access := .read, addr := 0, stallLimit := 50, stallLeft := 9, wait := w }

theorem witness_ByteReadResolvesAtGrantAndEndsTheGrantedRead :
    (let s := holding .read .claim 9 running
     s.due = some .byteReadGrant ∧ s.host.pend = some (heldRead .claim)) ∧
    (let s := { holding .read .granted 9 running with port := .reading (.hostByte 66 0) }
     s.atRest ∧ s.host.pend = some (heldRead .granted) ∧ (heldRead .granted).wait = .granted) ∧
    (let s := { running with port := .reading (.hostByte 66 0) }
     s.atRest ∧ s.host.pend = none) := by decide +kernel

theorem witness_StallExpiryAndStrobeReleaseEndTheirOwn :
    (let s := holding (.write 7#8) .admission 0 fullBudget
     (s.setMode .holdup).atRest ∧ (s.host.pend.map (·.stallLeft)) = some 0 ∧ (s.host.pend.map (·.access)) = some (.write 7#8)) ∧
    (let s := { holding .read .granted 0 running with port := .reading (.hostByte 66 0) }
     s.atRest ∧ (s.host.pend.map (·.stallLeft)) = some 0 ∧ (s.host.pend.map (·.access)) = some .read) ∧
    (let s := { running with host := { running.host with bus := .ended } }
     s.atRest ∧ s.host.bus = .ended) ∧
    (running.atRest ∧ running.host.bus ≠ .ended) ∧
    (∀ k ∈ [some Strobe.read, some .both], ∀ x ∈ [Access.read, .write 7#8],
      let h := holding x .claim 9 running
      let s := { h with host := { h.host with strobe := k } }
      s.inReset = false ∧ (s.host.strobe = some .read ∨ s.host.strobe = some .both) ∧ s.host.bus = .pending ∧
        (s.host.pend.map (·.access)) = some x) ∧
    (let s := { running with host := { running.host with bus := .ended, strobe := some .read, readByte := some 5#8 } }
     s.inReset = false ∧ s.host.strobe = some .read ∧ s.host.bus ≠ .pending) ∧
    (running.host.strobe ≠ some .read ∧ running.host.strobe ≠ some .both ∧ State.reset.inReset = true) := by
  decide +kernel

theorem exec_hostWrite_after (a : HostAddr) (d : Byte) (s : State) :
    exec (.hostWrite a d) s = .next (after (.hostWrite a d) s) := by
  simp only [after, exec, execHostWrite, State.pinEvent]
  cases s.inReset <;> rfl

theorem exec_hostRead_after (a : HostAddr) (s : State) : exec (.hostRead a) s = .next (after (.hostRead a) s) := by
  simp only [after, exec, execHostRead, State.pinEvent]
  cases s.inReset <;> rfl

theorem exec_arrivalConditionFalse_after (s : State) :
    exec .arrivalConditionFalse s = .next (after .arrivalConditionFalse s) := by
  simp only [after, exec, execArrivalConditionFalse, State.pinEvent]
  cases s.inReset <;> rfl

theorem witness_AcceptedByteIsReadBack :
    running.atRest ∧ TableLaw running ∧ running.host.bus = .idle ∧ running.mode = .run ∧ running.host.pend = none ∧
      (257919#21 : HostAddr).toNat < running.remap.capacity * 64 ∧
      (resolvePolicy running.regions ((257919#21 : HostAddr).toNat / 64)).policy ≠ .locked ∧
      ∃ r t u v, tableWrite running.cfg.budget running.time.stamp ((257919#21 : HostAddr).toNat / 64)
          (pageOffset 257919#21) 7#8 (resolvePolicy running.regions ((257919#21 : HostAddr).toNat / 64)) running.table
            = some r ∧
        exec (.hostWrite 257919#21 7#8) running = .next t ∧ exec .arrivalConditionFalse t = .next u ∧
        exec (.hostRead 257919#21) u = .next v := by
  obtain ⟨h, r, hr⟩ := witness_AcceptedHostWriteReachesTheTable
  exact ⟨h.1, running_table_law, h.2.1, h.2.2.1, rfl, h.2.2.2.1, h.2.2.2.2, r, _, _, _, hr, exec_hostWrite_after _ _ _,
    exec_arrivalConditionFalse_after _, exec_hostRead_after _ _⟩

theorem witness_SnapshotTakesTheHeadOfTheQueue :
    (let s := { withEntry (entryIn .due) with ce := { stage := .starting, record := none } }
     s.due = some .snapshot ∧ s.table.dueQueue = [0] ∧ s.table.entries[(0 : Index)].page = some 0 ∧
       ∀ m ∈ s.remap.records, m.kind = .remap → m.page ≠ 0) ∧
    (let s := { withEntry (entryIn .due) with
                ce := { stage := .starting, record := none }
                remap := { running.remap with records := [{ kind := .remap, spare := 31, page := 0 }] } }
     s.due = some .snapshot ∧ s.table.dueQueue = [0] ∧ s.table.entries[(0 : Index)].page = some 0 ∧
       ∃ m ∈ s.remap.records, m.kind = .remap ∧ m.page = 0) := by decide +kernel

theorem witness_FillCompletesThenElidesOrClaims :
    (let r := commit 0xFF#8 .home false 0
     let s := committing r .filling (.reading (.fill 66))
     s.atRest ∧ s.port = .reading (.fill 66) ∧ s.ce.record = some r ∧
       ∀ o : Offset, r.buffer[o].getD (s.readPage 66)[o] = (s.readPage 66)[o]) ∧
    (let r := commit 0#8 .home false 0
     let s := committing r .filling (.reading (.fill 66))
     s.atRest ∧ s.port = .reading (.fill 66) ∧ s.ce.record = some r ∧
       ∃ o : Offset, r.buffer[o].getD (s.readPage 66)[o] ≠ (s.readPage 66)[o]) := by decide +kernel

theorem witness_SuccessfulCommitRoutesItsEntry :
    (∀ o : Offset, cleanEntry.changed[o] = false) ∧
    (let e := { entryIn .committing with promoteAtEnd := true }
     (∃ o : Offset, e.changed[o] = true) ∧ e.promoteAtEnd = true) ∧
    (let e := entryIn .committing
     (∃ o : Offset, e.changed[o] = true) ∧ e.promoteAtEnd = false ∧ e.syncMark = false ∧ e.deadlinePassed = false ∧
       running.mode ≠ .holdup) := by decide +kernel

theorem witness_GrantsProgramThenReadTheTarget :
    (let r := commit 0#8 .home false 0
     let s := committing r .awaitProgram .idle
     s.due = some .programClaimGrant ∧ s.ce.record = some r ∧
       ∀ o : Offset, r.buffer[o] = some (Vector.replicate 64 0#8 : Page)[o]) ∧
    (let r := commit 0#8 .home false 1
     let s := committing r .awaitVerify .idle
     s.due = some .verifyClaimGrant ∧ s.ce.record = some r) ∧
    (running.port = .idle ∧ (4095 : Nat) < 4096 * 2 ^ running.straps.msize.toNat) ∧
    (∀ op ∈ [ReadOp.hostByte 4095 63, .fill 4095, .verify 4095, .mapVerify 4095, .load 4095],
      ({ running with port := .reading op }).port = .reading op) ∧
    (let s := { committing (commit 0#8 .home false 1) .programming (.programming .commitEngine 4095 25) with
                pnv := busyWith 4095 }
     s.port = .programming .commitEngine 4095 25 ∧ s.pnv.busy = some (4095, (Vector.replicate 64 0#8 : Page))) := by
  decide +kernel

theorem empty_memory_law {s : State} (h : s.pnv.cells = []) : MemoryLaw s := by
  unfold MemoryLaw
  rw [h]
  decide

/-- At the last page of the PNV, and at the map store's first. -/
theorem witness_ProgramCompletionWritesItsPageAlone :
    (let s := { committing (commit 0#8 .home false 1) .programming (.programming .commitEngine 4095 25) with
                pnv := busyWith 4095 }
     (s.atRest ∧ s.port = .programming .commitEngine 4095 25 ∧
       s.pnv.busy = some (4095, (Vector.replicate 64 0#8 : Page)) ∧ 4095 < 4096 * 2 ^ s.straps.msize.toNat) ∧ MemoryLaw s) ∧
    (let s := { persisting (job 0#8 .program) (.programming .mapStore 0 25) with pnv := busyWith 0 }
     (s.atRest ∧ s.port = .programming .mapStore 0 25 ∧
       s.pnv.busy = some (0, (Vector.replicate 64 0#8 : Page)) ∧ 0 < 4096 * 2 ^ s.straps.msize.toNat) ∧ MemoryLaw s) :=
  ⟨⟨by decide +kernel, empty_memory_law rfl⟩, ⟨by decide +kernel, empty_memory_law rfl⟩⟩

theorem witness_VerifyMatchEndsTheCommit :
    (let r := commit 0xFF#8 .home false 1
     let s := committing r .verifying (.reading (.verify 66))
     s.atRest ∧ s.port = .reading (.verify 66) ∧ s.ce.record = some r ∧
       (∀ o : Offset, r.buffer[o] = some (s.readPage 66)[o]) ∧ r.trial = false) ∧
    (let r := commit 0xFF#8 (.spare 0) true 1
     let s := committing r .verifying (.reading (.verify 34))
     s.atRest ∧ s.port = .reading (.verify 34) ∧ s.ce.record = some r ∧
       (∀ o : Offset, r.buffer[o] = some (s.readPage 34)[o]) ∧ r.trial = true ∧ r.target = .spare 0) := by
  decide +kernel

theorem witness_VerifyMismatchRetriesTheTarget :
    let r := commit 0#8 .home false 1
    let s := committing r .verifying (.reading (.verify 66))
    s.atRest ∧ s.port = .reading (.verify 66) ∧ s.ce.record = some r ∧
      (∃ o : Offset, r.buffer[o] = some 0#8 ∧ 0#8 ≠ (s.readPage 66)[o]) ∧ r.attempts < r.attemptLimit := by
  decide +kernel

/-- A part whose 32 spares are all used up. -/
def noSpareLeft (s : State) : State :=
  { s with
    remap := { s.remap with records := (List.range 32).map fun n => { kind := .retired, spare := n, page := 0 } } }

/-- A state with an error captured and the overflow count at 254. -/
def raiseError (s : State) : State :=
  { s with events := { s.events with capture := some { kind := .range, addr := 5#24, stamp := 9#32 }, overflow := 254#8 } }

theorem witness_ExhaustedTargetLeadsToSpareOrPinning :
    (let r := commit 0#8 (.spare 0) true 2
     let s := committing r .verifying (.reading (.verify 34))
     let u : State := { s with port := .idle, events := addCount .verifyFails s.events }
     s.atRest ∧ s.port = .reading (.verify 34) ∧ s.ce.record = some r ∧
       (∃ o : Offset, r.buffer[o] = some 0#8 ∧ 0#8 ≠ (s.readPage 34)[o]) ∧ r.attemptLimit ≤ r.attempts ∧
       allocate (u.giveUpTarget r).remap = some 1) ∧
    (let r := commit 0#8 .home false 2
     let s := noSpareLeft (committing r .verifying (.reading (.verify 66)))
     let u : State := { s with port := .idle, events := addCount .verifyFails s.events }
     s.atRest ∧ s.port = .reading (.verify 66) ∧ s.ce.record = some r ∧
       (∃ o : Offset, r.buffer[o] = some 0#8 ∧ 0#8 ≠ (s.readPage 66)[o]) ∧ r.attemptLimit ≤ r.attempts ∧
       allocate (u.giveUpTarget r).remap = none ∧ s.events.capture = none ∧
       (raiseError s).events.capture ≠ none ∧ (raiseError s).atRest) := by decide +kernel

theorem witness_ProgramLimitExpirySendsThePartToFault :
    (let s := persisting (job 0#8 .program) (.programming .mapStore 0 0)
     s.atRest ∧ s.port = .programming .mapStore 0 0 ∧ s.store.job ≠ none) ∧
    (let s := committing (commit 0#8 .home false 1) .programming (.programming .commitEngine 66 0)
     s.atRest ∧ s.port = .programming .commitEngine 66 0 ∧ s.store.job = none ∧ s.host.pend = none ∧
       s.events.capture = none) ∧
    (let s := holding .read .claim 9 (committing (commit 0#8 .home false 1) .programming (.programming .commitEngine 66 0))
     s.atRest ∧ s.port = .programming .commitEngine 66 0 ∧ s.host.pend = some (heldRead .claim)) ∧
    (let c := committing (commit 0#8 .home false 1) .programming (.programming .commitEngine 66 0)
     let s := holding (.write 7#8) .admission 9 { c with cfg := { running.cfg with budget := 1 } }
     s.atRest ∧ s.port = .programming .commitEngine 66 0 ∧ (s.host.pend.map (·.wait)) = some .admission) ∧
    (∀ q ∈ [SaveRequest.waiting, .running], ∀ c ∈ [none, some Copy.b],
      let p := persisting (job 0#8 .program) (.programming .mapStore 0 0)
      let s := { p with store := { p.store with saveRequest := q, current := c } }
      s.atRest ∧ s.port = .programming .mapStore 0 0 ∧ s.store.job = some (job 0#8 .program)) ∧
    (∀ x ∈ [Access.read, .write 7#8],
      let s := holding x .boot 9 (committing (commit 0#8 .home false 1) .programming (.programming .commitEngine 66 0))
      s.atRest ∧ s.port = .programming .commitEngine 66 0 ∧ (s.host.pend.map (·.wait)) = some .boot) ∧
    (let s := raiseError (persisting (job 0#8 .program) (.programming .mapStore 0 0))
     s.atRest ∧ s.port = .programming .mapStore 0 0 ∧ s.events.capture ≠ none) := by
  decide +kernel

theorem witness_AllocationIsLowestAndOnlyATrialSpareIsRetired :
    (0 < running.remap.spares ∧ (∀ m ∈ running.remap.records, m.spare ≠ 0) ∧
      ∀ k < 0, ∃ m ∈ running.remap.records, m.spare = k) ∧
    (∀ n < (noSpareLeft running).remap.spares, ∃ m ∈ (noSpareLeft running).remap.records, m.spare = n) ∧
    (commit 0#8 .home false 2).trial = false ∧
    ((commit 0#8 (.spare 31) true 2).trial = true ∧ (commit 0#8 (.spare 31) true 2).target = .spare 31) ∧
    (running.store.job = none ∧ (persisting (job 0#8 .program) .idle).store.job ≠ none) := by
  decide +kernel

/-- `running` with 28 of its 32 spares retired: 4 are free, the threshold. -/
def fourSparesLeft : State :=
  { running with
    remap := { running.remap with records := (List.range 28).map fun n => { kind := .retired, spare := n, page := 0 } } }

theorem witness_RemapChangeMovesOnePageAndSparesLowIsReportedOnce :
    (let records : List MapRecord :=
       [{ kind := .remap, spare := 0, page := 5 }, { kind := .remap, spare := 2, page := 6 }]
     (records.map (·.spare)).Pairwise (· < ·) ∧ (∀ m ∈ records, m.spare ≠ 1) ∧
       ((records.filter fun m => m.kind == .remap).map (·.page)).Nodup ∧
       (∃ m ∈ records, m.kind = .remap ∧ m.page = 5) ∧ ∃ m ∈ records, ¬ (m.kind = .remap ∧ m.page = 5)) ∧
    (let s := fourSparesLeft
     s.remap.lowReport = .clear ∧ s.remap.spares - s.remap.records.length ≤ s.cfg.sparesLow ∧ s.cfg.sparesLow ≠ 0) ∧
    ¬ (running.remap.spares - running.remap.records.length ≤ running.cfg.sparesLow) := by decide +kernel

/-- `running` with a job that a trigger has started, over a current copy. -/
def jobDue (c : Option Copy) : State := { running with store := { running.store with current := c, startDue := true } }

theorem witness_JobStartsWithItsSnapshotAndTakesItsSteps :
    (∀ c ∈ [none, some Copy.a, some Copy.b], (jobDue c).due = some .persistJobStart ∧ (jobDue c).store.current = c) ∧
    (∀ x ∈ [JobStep.program, JobStep.verify],
      let j := job 0#8 x
      let s := persisting j .idle
      s.due = some .mapStoreStepGrant ∧ s.store.job = some j ∧ j.image[j.page]? = some (Vector.replicate 64 0#8) ∧
        j.step = x) := by decide +kernel

/-- A job at its only record page, with the same byte at every place of its image. -/
def recordJob (b : Byte) : PersistJob :=
  { job b .verify with page := 1, image := [Vector.replicate 64 b, Vector.replicate 64 b] }

theorem witness_JobVerifyMovesOnSucceedsOrFails :
    (let j := recordJob 0xFF#8
     let s := persisting j (.reading (.mapVerify 1))
     s.atRest ∧ s.port = .reading (.mapVerify 1) ∧ s.store.job = some j ∧
       j.image[j.page]? = some (s.readPage 1) ∧ j.page ≠ 0) ∧
    (let j := job 0xFF#8 .verify
     let s := persisting j (.reading (.mapVerify 0))
     s.atRest ∧ s.port = .reading (.mapVerify 0) ∧ s.store.job = some j ∧
       j.image[j.page]? = some (s.readPage 0) ∧ j.page = 0) ∧
    (let j := job 0#8 .verify
     let s := persisting j (.reading (.mapVerify 0))
     s.atRest ∧ s.port = .reading (.mapVerify 0) ∧ s.store.job = some j ∧
       j.image[j.page]? = some (Vector.replicate 64 0#8) ∧ Vector.replicate 64 0#8 ≠ s.readPage 0) := by
  decide +kernel

theorem witness_LongCommandsComplete :
    (∀ ok : Bool,
      let s := { running with
                 store := { running.store with saveReport := some ok }
                 link := { running.link with longCommand := .save } }
      s.inReset = false ∧ s.boot.stage ≠ .clock 0 ∧ s.link.longCommand ≠ .sync ∧ s.store.saveReport = some ok) ∧
    (∀ x ∈ [EntryState.clean, EntryState.pinned],
      let s := { withEntry (if x = .clean then cleanEntry else entryIn .pinned) with
                 link := { running.link with longCommand := .sync } }
      s.inReset = false ∧ s.boot.stage ≠ .clock 0 ∧ s.link.longCommand = .sync ∧
        ∀ i : Index, s.table.entries[i].syncMark = false) := by decide +kernel

theorem witness_StoredCopyReadsBackWhole :
    ((freshMap 3).sizeCode = (3#2).toNat ∧ contentsValid 3#2 (freshMap 3) = true ∧ (0#2 : BitVec 2) ≠ 3#2) ∧
    (let m : StoredMap :=
       { freshMap 3 with
         records := (List.range 17).map fun k => { kind := .remap, spare := k, page := k } }
     (copyPages m).tail[1]?.isSome ∧ m.records[16 * 1 + 0]?.isSome ∧ m.records.length ≤ 16 * 1 + 1) := by
  decide +kernel

/-- A copy of a fresh map with a sequence number. -/
def copyAt (n : BitVec 32) : List Page := copyPages { freshMap 0 with sequence := n }

set_option maxRecDepth 4000 in
theorem copyAt_valid : copyValid 0#2 (copyAt 0#32) = true ∧ copyValid 0#2 (copyAt 57#32) = true ∧
    copyValid 0#2 (copyAt 58#32) = true ∧ copyValid 0#2 (copyAt 0x80000000#32) = true := by decide +kernel

theorem copyAt_sequence : (loadCopy (copyAt 0#32)).sequence = 0#32 ∧ (loadCopy (copyAt 57#32)).sequence = 57#32 ∧
    (loadCopy (copyAt 58#32)).sequence = 58#32 ∧ (loadCopy (copyAt 0x80000000#32)).sequence = 0x80000000#32 := by
  decide +kernel

/-- A copy area that was never written. -/
def blankCopy : List Page := [Vector.replicate 64 0xFF#8]

/-- One copy valid, the other, none; A newer, equal, 2^31 apart; B newer. -/
theorem witness_SelectTakesTheNewerValidCopy :
    (copyValid 0#2 blankCopy = false ∧ copyValid 0#2 (copyAt 58#32) = true ∧ copyValid 0#2 (copyAt 57#32) = true ∧
      copyValid 0#2 (copyAt 0#32) = true ∧ copyValid 0#2 (copyAt 0x80000000#32) = true) ∧
    ((loadCopy (copyAt 58#32)).sequence - (loadCopy (copyAt 57#32)).sequence).toNat < 2 ^ 31 ∧
    ((loadCopy (copyAt 0x80000000#32)).sequence - (loadCopy (copyAt 0#32)).sequence).toNat = 2 ^ 31 := by
  obtain ⟨h0, h1, h2, h3⟩ := copyAt_valid
  obtain ⟨q0, q1, q2, q3⟩ := copyAt_sequence
  refine ⟨⟨by decide +kernel, h2, h1, h0, h3⟩, ?_, ?_⟩
  · rw [q1, q2]; decide
  · rw [q0, q3]; decide

/-- A header page with the signature and a record count of 17: two record pages. -/
def signedHeader : Page :=
  ((((Vector.replicate 64 0#8).set 0 0x47#8).set 1 0x52#8).set 2 0x4A#8 |>.set 3 0x4D#8).set 13 17#8

/-- The part in LOAD, with what it has read. -/
def loading (c : Copy) (k page : Nat) (a b : List Page) : State :=
  { booting (.load c k) with port := .reading (.load page), boot := { stage := .load c k, pagesA := a, pagesB := b } }

theorem witness_BootGoesThroughClockReadyAndLoad :
    ((booting (.clock 0)).inReset = false ∧ (booting (.clock 0)).boot.stage = .clock 0) ∧
    (let s := booting (.ready 25)
     s.inReset = false ∧ s.due = none ∧ s.boot.stage = .ready 25 ∧ s.pnv.busy = none) ∧
    (let s := loading .a 1 1 [signedHeader] []
     s.atRest ∧ s.port = .reading (.load 1) ∧ (s.boot.pagesA ++ [s.readPage 1])[0]? = some signedHeader ∧
       s.boot.stage = .load .a 1 ∧ (signedHeader[0] = 0x47#8 ∧ signedHeader[1] = 0x52#8 ∧ signedHeader[2] = 0x4A#8 ∧
       signedHeader[3] = 0x4D#8) ∧ signedHeader[12].toNat * 256 + signedHeader[13].toNat ≤ 256 ∧
       1 < (signedHeader[12].toNat * 256 + signedHeader[13].toNat + 15) / 16) ∧
    (let s := loading .a 2 2 [signedHeader, signedHeader] []
     s.atRest ∧ s.port = .reading (.load 2) ∧ (s.boot.pagesA ++ [s.readPage 2])[0]? = some signedHeader ∧
       s.boot.stage = .load .a 2 ∧ (signedHeader[12].toNat * 256 + signedHeader[13].toNat + 15) / 16 ≤ 2) := by
  decide +kernel

/-- READY and CLOCK with a cut program at the last page of the largest PNV; READY timed out with an access held; the
second record page of copy B. -/
theorem witness_BootWithACutProgram :
    (∀ stage ∈ [BootStage.ready 0, .ready 25, .clock 16],
      let s := bootingBusy stage 32767
      s.inReset = false ∧ s.due = none ∧ s.pnv.busy = some (32767, (Vector.replicate 64 0#8 : Page)) ∧
        s.boot.stage = stage ∧ isProgramming s.port = false ∧ s.pnv.cells = []) ∧
    (∀ x ∈ [Access.read, .write 7#8],
      let s := holding x .boot 9 (bootingBusy (.ready 0) 5)
      s.inReset = false ∧ s.due = none ∧ s.boot.stage = .ready 0 ∧ s.pnv.busy ≠ none ∧ s.store.job = none ∧
        (s.host.pend.map (·.wait)) = some .boot ∧ s.events.capture = none) ∧
    (let s := bootingBusy (.ready 0) 5
     s.inReset = false ∧ s.due = none ∧ s.boot.stage = .ready 0 ∧ s.pnv.busy ≠ none ∧ s.store.job = none ∧
       s.host.pend = none ∧ s.ce.record = none) ∧
    (let s := loading .b 1 18 [signedHeader] [signedHeader]
     s.atRest ∧ s.port = .reading (.load 18) ∧ (s.boot.pagesB ++ [s.readPage 18])[0]? = some signedHeader ∧
       s.boot.stage = .load .b 1 ∧ signedHeader[0] = 0x47#8 ∧ signedHeader[1] = 0x52#8 ∧ signedHeader[2] = 0x4A#8 ∧
       signedHeader[3] = 0x4D#8 ∧ signedHeader[12].toNat * 256 + signedHeader[13].toNat ≤ 256 ∧
       1 < (signedHeader[12].toNat * 256 + signedHeader[13].toNat + 15) / 16) := by
  decide +kernel

/-- The last load of a part whose copy B was never written, with copy A as given. -/
def lastLoad (a : List Page) : State := loading .b 0 17 a []

/-- What such a part has read of copy B. -/
theorem lastLoad_readsB (a : List Page) :
    (lastLoad a).boot.pagesB ++ [(lastLoad a).readPage 17] = [(booting (.ready 1)).readPage 17] := rfl

set_option maxRecDepth 4000 in
theorem readB_blank :
    pagesToLoad (headerOf [(booting (.ready 1)).readPage 17]) ≤ 0 ∧
      sizeMismatch 0#2 [(booting (.ready 1)).readPage 17] = false ∧ sizeMismatch 0#2 blankCopy = false ∧
      copyValid 0#2 [(booting (.ready 1)).readPage 17] = false ∧ sizeMismatch 0#2 (copyAt 58#32) = false ∧
      sizeMismatch 0#2 (copyPages (freshMap 1)) = true := by decide +kernel

theorem select_none {m : BitVec 2} {a b : List Page} (ha : copyValid m a = false) (hb : copyValid m b = false) :
    selectCopy m a b = none := by unfold selectCopy; rw [ha, hb]

theorem select_a {m : BitVec 2} {a b : List Page} (ha : copyValid m a = true) (hb : copyValid m b = false) :
    selectCopy m a b = some .a := by unfold selectCopy; rw [ha, hb]

/-- The last page of copy B has been read, with nothing due. -/
def atLastLoad (s : State) : Prop :=
  s.atRest ∧ s.port = .reading (.load 17) ∧ s.boot.stage = .load .b 0 ∧
    pagesToLoad (headerOf (s.boot.pagesB ++ [s.readPage 17])) ≤ 0 ∧
    sizeMismatch s.straps.msize (s.boot.pagesB ++ [s.readPage 17]) = false

theorem lastLoad_atLastLoad (a : List Page) : atLastLoad (lastLoad a) := by
  refine ⟨⟨rfl, rfl⟩, rfl, rfl, ?_, ?_⟩
  · rw [lastLoad_readsB]; exact readB_blank.1
  · rw [lastLoad_readsB]; exact readB_blank.2.1

/-- Copy A of another size; no copy valid; copy A valid; PFW# asserted and loss pending. -/
theorem witness_LastLoadSelectsAndBuilds :
    (let s := lastLoad (copyPages (freshMap 1))
     atLastLoad s ∧ sizeMismatch s.straps.msize s.boot.pagesA = true) ∧
    (let s := lastLoad blankCopy
     atLastLoad s ∧ sizeMismatch s.straps.msize s.boot.pagesA = false ∧ s.host.pend = none ∧
       selectCopy s.straps.msize s.boot.pagesA (s.boot.pagesB ++ [s.readPage 17]) = none) ∧
    (let s := lastLoad (copyAt 58#32)
     atLastLoad s ∧ sizeMismatch s.straps.msize s.boot.pagesA = false ∧
       selectCopy s.straps.msize s.boot.pagesA (s.boot.pagesB ++ [s.readPage 17]) = some .a) ∧
    (let s := { lastLoad blankCopy with pfw := true, events := { running.events with lossPending := true } }
     atLastLoad s ∧ sizeMismatch s.straps.msize s.boot.pagesA = false ∧ s.pfw = true ∧ s.events.lossPending = true) := by
  obtain ⟨h0, h1, -⟩ := witness_SelectTakesTheNewerValidCopy.1
  obtain ⟨-, -, ma, hb, mc, mx⟩ := readB_blank
  refine ⟨⟨lastLoad_atLastLoad _, mx⟩, ⟨lastLoad_atLastLoad _, ma, rfl, ?_⟩, ⟨lastLoad_atLastLoad _, mc, ?_⟩, ?_⟩
  · rw [lastLoad_readsB]; exact select_none h0 hb
  · rw [lastLoad_readsB]; exact select_a h1 hb
  · obtain ⟨-, -, -, n, x⟩ := lastLoad_atLastLoad blankCopy
    exact ⟨⟨⟨rfl, rfl⟩, rfl, rfl, n, x⟩, ma, rfl, rfl⟩

/-- The last load of a part with an access held in BOOT at an address, and a default record and a budget as given. -/
def heldLoad (x : Access) (a : HostAddr) (p : Policy) (budget : Nat) : State :=
  { lastLoad blankCopy with
    host :=
      { bus := .pending, pend := some { access := x, addr := a, stallLimit := 50, stallLeft := 9, wait := .boot }
        readByte := none, strobe := some (if x = .read then .read else .write) }
    regions := { RegionTable.reset with dflt := { PolicyRecord.reset with policy := p } }
    cfg := { Settings.reset with budget := budget } }

theorem exec_loadPageReadComplete_after (s : State) :
    exec .loadPageReadComplete s = .next (after .loadPageReadComplete s) := by
  simp only [after, exec, execLoadPageReadComplete, State.event]
  cases s.inReset <;> rfl

/-- The held access in RUN and in HOLDUP, in range and out of it, LOCKED or not, taken or made to wait. -/
theorem witness_LastLoadTakesTheHeldAccess :
    (∀ x ∈ [Access.read, .write 7#8], ∀ n ∈ [0, 257919, 257920], ∀ pfw : Bool,
      let a : HostAddr := BitVec.ofNat 21 n
      let s := { heldLoad x a .absorb 32 with pfw := pfw }
      s.atRest ∧ s.port = .reading (.load 17) ∧ s.boot.stage = .load .b 0 ∧
        pagesToLoad (headerOf (s.boot.pagesB ++ [s.readPage 17])) ≤ 0 ∧
        sizeMismatch s.straps.msize s.boot.pagesA = false ∧
        sizeMismatch s.straps.msize (s.boot.pagesB ++ [s.readPage 17]) = false ∧
        (s.host.pend.map fun q => (q.access, q.addr, q.wait)) = some (x, a, .boot)) ∧
    (∃ t, exec .loadPageReadComplete (heldLoad (.write 7#8) 257920 .absorb 32) = .next t ∧ t.remap.capacity ≤ 4030) ∧
    (∃ t, exec .loadPageReadComplete (heldLoad (.write 7#8) 0 .locked 32) = .next t ∧ 0 < t.remap.capacity ∧
      (resolvePolicy t.regions 0).policy = .locked) ∧
    (∃ t, exec .loadPageReadComplete (heldLoad (.write 7#8) 0 .absorb 32) = .next t ∧ 0 < t.remap.capacity ∧
      (resolvePolicy t.regions 0).policy ≠ .locked) ∧
    (∃ t, exec .loadPageReadComplete (heldLoad .read 0 .absorb 32) = .next t ∧ 0 < t.remap.capacity) ∧
    tableHit (heldLoad .read 0 .absorb 32).table 0 (pageOffset 0) = none ∧
    tableWrite 0 0#32 0 (pageOffset 0) 7#8 PolicyRecord.reset (heldLoad (.write 7#8) 0 .absorb 0).table = none ∧
    (tableWrite 32 0#32 0 (pageOffset 0) 7#8 PolicyRecord.reset (heldLoad (.write 7#8) 0 .absorb 32).table).isSome = true := by
  refine ⟨by decide +kernel, ⟨_, exec_loadPageReadComplete_after _, by decide +kernel⟩,
    ⟨_, exec_loadPageReadComplete_after _, by decide +kernel⟩, ⟨_, exec_loadPageReadComplete_after _, by decide +kernel⟩,
    ⟨_, exec_loadPageReadComplete_after _, by decide +kernel⟩, by decide +kernel, by decide +kernel, by decide +kernel⟩

/-- A mismatched copy with an access held, and with nothing in the capture record. -/
theorem witness_LastLoadWithAMismatchedCopy :
    (let s := lastLoad (copyPages (freshMap 1))
     atLastLoad s ∧ sizeMismatch s.straps.msize s.boot.pagesA = true ∧ s.events.capture = none ∧ s.store.job = none ∧
       s.host.pend = none) ∧
    (let s := holding .read .boot 9 (lastLoad (copyPages (freshMap 1)))
     sizeMismatch s.straps.msize s.boot.pagesA = true ∧ (s.host.pend.map (·.wait)) = some .boot) :=
  ⟨⟨lastLoad_atLastLoad _, readB_blank.2.2.2.2.2, rfl, rfl, rfl⟩, readB_blank.2.2.2.2.2, rfl⟩

theorem witness_PowerFailPinDrivesHoldupAndFlush :
    ((inMode .fault running).atRest ∧ (inMode .fault running).mode ≠ .run) ∧
    ((withEntry (entryIn .settling)).atRest ∧ (withEntry (entryIn .settling)).mode = .run ∧
      waitingWrite (withEntry (entryIn .settling)).host = none) ∧
    (let c := committing (commit 0#8 .home false 0) .filling (.reading (.fill 66))
     let s := holding (.write 7#8) .admission 9 { c with cfg := { running.cfg with budget := 1 } }
     s.atRest ∧ s.mode = .run ∧ waitingWrite s.host = some (0, 7#8)) ∧
    (let s := { inMode .holdup running with flush := .done, pfw := true }
     s.atRest ∧ s.mode = .holdup) ∧
    (let s := { inMode .holdup running with flush := .flushing, pfw := true }
     s.due = some .flushDone) := by decide +kernel

theorem witness_FramesAndBytesMoveTheFrameState :
    (running.atRest ∧ running.link.lcs = false) ∧
    ((framed .command running).atRest ∧ (framed .command running).link.lcs = true ∧
      (framed .command running).link.frame = .command ∧ commandOfCode 0x31#8 = some .readRecord ∧
      argumentCount .readRecord ≠ 0 ∧ commandOfCode 0xFF#8 = none) ∧
    (let s := framed (.arguments .setRegion [0#8]) running
     s.atRest ∧ s.link.frame = .arguments .setRegion [0#8] ∧ ([0#8] : List Byte).length + 1 < argumentCount .setRegion) ∧
    (∀ f ∈ [Frame.response [1#8, 2#8], .response [1#8], .drain, .ignored, .none],
      (framed f running).atRest ∧ (framed f running).link.frame = f ∧ (framed f running).link.lcs = true) ∧
    (commandOfCode 0x01#8 = some .getId ∧ argumentCount .getId = 0) ∧
    (let s := framed (.arguments .setRegion (List.replicate 9 0#8)) running
     s.atRest ∧ s.link.frame = .arguments .setRegion (List.replicate 9 0#8) ∧
       (List.replicate 9 0#8).length + 1 = argumentCount .setRegion) := by decide +kernel

theorem witness_NotReadyAndCollideChangeNothing :
    (let s := framed .command (booting (.clock 9))
     s.atRest ∧ s.mode = .boot ∧ s.link.frame = .command) ∧
    (∀ c ∈ [Command.clearEvents, .setEnables, .getCounter, .queryPage, .readRecord, .getConfig, .setConfig, .setRegion],
      let taken := List.replicate (argumentCount c - 1) 0#8
      let s := framed (.arguments c taken) (booting (.clock 9))
      s.atRest ∧ s.mode = .boot ∧ s.link.frame = .arguments c taken ∧ taken.length + 1 = argumentCount c) ∧
    (∀ x ∈ [LongCommand.sync, .save],
      let s0 := { withEntry { entryIn .settling with syncMark := true } with
                  link := { running.link with longCommand := x } }
      let s := framed .command s0
      s.atRest ∧ s.mode ≠ .boot ∧ s.link.frame = .command ∧ s.link.longCommand ≠ .none) := by decide +kernel

theorem witness_IdentityAndStatusAreAnsweredInEveryMode :
    (let s := framed .command (committing (commit 0#8 .home false 0) .filling (.reading (.fill 66)))
     s.atRest ∧ s.link.frame = .command ∧ s.table.entries[(0 : Index)].state = .committing ∧
       ∀ j : Index, s.table.entries[j].state = .committing → j = 0) ∧
    (let s := framed .command (booting (.clock 9))
     s.atRest ∧ s.link.frame = .command ∧ ∀ i : Index, s.table.entries[i].state ≠ .committing) := by decide +kernel

/-- A captured error. -/
def someError : CapturedError := { kind := .verify, addr := 5#24, stamp := 9#32 }

theorem witness_EventAndCaptureCommandsActOnTheEventUnit :
    (∀ f ∈ [Frame.command, .arguments .clearEvents [0xFF#8], .arguments .setEnables [0xFF#8]],
      (framed f running).atRest ∧ (framed f running).mode ≠ .boot ∧ (framed f running).link.frame = f) ∧
    (∀ c ∈ [none, some someError],
      let s := framed .command { running with events := { running.events with capture := c } }
      s.atRest ∧ s.mode ≠ .boot ∧ s.link.frame = .command ∧ s.events.capture = c) := by decide +kernel

theorem witness_CountersAreReadByIndexAndClearedTogether :
    (let s := framed (.arguments .getCounter []) running
     s.atRest ∧ s.mode ≠ .boot ∧ s.link.frame = .arguments .getCounter []) ∧
    ((1#8).toNat = (0 : Fin 10).val + 1 ∧ (10#8).toNat = (9 : Fin 10).val + 1 ∧ (0#8).toNat = 0 ∧ 10 < (11#8).toNat) ∧
    (let s := framed .command running
     s.atRest ∧ s.mode ≠ .boot ∧ s.link.frame = .command) := by decide +kernel

/-- Pages 4030 and 4029; page 0 with an entry and, its record there, without. -/
theorem witness_PageAndRecordQueriesReport :
    (let s := framed (.arguments .queryPage [0x0F#8]) running
     s.atRest ∧ s.mode ≠ .boot ∧ s.link.frame = .arguments .queryPage [0x0F#8] ∧
       s.remap.capacity ≤ (0x0F#8).toNat * 256 + (0xBE#8).toNat ∧ (0x0F#8).toNat * 256 + (0xBD#8).toNat < s.remap.capacity ∧
       ∀ i : Index, s.table.entries[i].state ≠ .free → s.table.entries[i].page ≠ some 4029) ∧
    (let s := framed (.arguments .queryPage [0#8]) (withEntry (entryIn .pinned))
     s.atRest ∧ s.mode ≠ .boot ∧ s.link.frame = .arguments .queryPage [0#8] ∧
       s.table.entries[(0 : Index)].state ≠ .free ∧ s.table.entries[(0 : Index)].page = some 0 ∧
       ∀ j : Index, j < 0 → s.table.entries[j].state ≠ .free → s.table.entries[j].page ≠ some 0) ∧
    (let s := framed (.arguments .readRecord []) fourSparesLeft
     s.atRest ∧ s.mode ≠ .boot ∧ s.link.frame = .arguments .readRecord [] ∧
       s.remap.records[(27#8).toNat]? = some { kind := .retired, spare := 27, page := 0 } ∧
       s.remap.records.length ≤ (28#8).toNat) := by decide +kernel

theorem witness_GetConfigReadsTheWorkingValues :
    (let s := framed (.arguments .getConfig []) running
     s.atRest ∧ s.mode ≠ .boot ∧ s.link.frame = .arguments .getConfig []) ∧
    (0x10#8).toNat = 0x10 + (0 : Fin 4).val ∧ (0x13#8).toNat = 0x10 + (3 : Fin 4).val ∧
    (8 < (9#8).toNat ∧ (0x0F#8).toNat < 0x10) ∧ 0x13 < (0x14#8).toNat := by decide +kernel

/-- Two dirty entries. -/
def twoDirty : State :=
  { running with
    table := { running.table with
      entries := (running.table.entries.set 0 (entryIn .settling)).set 1 { entryIn .settling with page := some 1 } } }

/-- A budget of 1 over two dirty entries; the budget at 1, 32, 0 and 33; the other items at their bounds. -/
theorem witness_SetConfigChecksThenTakesOneItem :
    (let s := framed (.arguments .setConfig [0#8, 0#8]) twoDirty
     s.atRest ∧ s.mode ≠ .boot ∧ s.link.frame = .arguments .setConfig [0#8, 0#8] ∧
       (0#8).toNat * 256 + (1#8).toNat < dirtyCount s.table) ∧
    (let v (hi lo : Byte) := hi.toNat * 256 + lo.toNat
     dirtyCount running.table ≤ v 0#8 0#8 ∧ v 0#8 1#8 = 1 ∧ v 0#8 32#8 = 32 ∧ v 0#8 33#8 = 33 ∧ v 0#8 255#8 = 255 ∧
       v 1#8 0#8 = 256 ∧ v 1#8 1#8 = 257 ∧ v 0#8 40#8 = max 10 running.regions.dflt.quiet ∧
       v 3#8 0xE8#8 = min 4095 running.regions.dflt.age ∧ v 0xFF#8 0xFF#8 = 65535) ∧
    (∀ item ∈ [0#8, 1#8, 2#8, 3#8, 4#8, 5#8, 6#8, 7#8, 8#8, 9#8],
      let s := framed (.arguments .setConfig [item, 0#8]) running
      s.atRest ∧ s.mode ≠ .boot ∧ s.link.frame = .arguments .setConfig [item, 0#8]) := by decide +kernel

/-- Region 3 of the last page (4029, 1), quiet 4095 and age 4095, and the same one page too far (4029, 2). -/
theorem witness_SetRegionReplacesOneRegionWhole :
    ∀ c0 ∈ [1#8, 2#8],
      let args : List Byte := [3#8, 0x0F#8, 0xBD#8, 0#8, c0, 2#8, 0x0F#8, 0xFF#8, 0x0F#8]
      let s := framed (.arguments .setRegion args) running
      s.atRest ∧ s.mode ≠ .boot ∧ s.link.frame = .arguments .setRegion args ∧
        ((0x0F#8).toNat * 256 + (0xBD#8).toNat + ((0#8).toNat * 256 + c0.toNat) ≤ s.remap.capacity ↔ c0 = 1#8) ∧
        ((3#8).toNat < 4 ∧ (2#8).toNat ≤ 2 ∧ (0x0F#8).toNat * 256 + (0xFF#8).toNat ≤ 4095 ∧
          10 ≤ (0x0F#8).toNat * 256 + (0xFF#8).toNat) := by decide +kernel

theorem witness_SyncMarksAndPromotes :
    (let s := framed .command (inMode .fault running)
     s.atRest ∧ s.mode ≠ .boot ∧ s.link.frame = .command ∧ s.link.longCommand = .none ∧ s.mode = .fault) ∧
    (∀ x ∈ [EntryState.settling, .pinned],
      let s := framed .command (withEntry (entryIn x))
      s.atRest ∧ s.mode ≠ .boot ∧ s.link.frame = .command ∧ s.link.longCommand = .none ∧ s.mode ≠ .fault ∧
        s.table.entries[(0 : Index)].state = x ∧ ∃ o : Offset, s.table.entries[(0 : Index)].changed[o] = true) := by
  decide +kernel

theorem witness_SaveStartsOrAwaitsAJob :
    (let s := framed .command (inMode .fault running)
     s.atRest ∧ s.mode ≠ .boot ∧ s.link.frame = .command ∧ s.link.longCommand = .none ∧ s.mode = .fault) ∧
    (let s := framed .command running
     s.atRest ∧ s.mode ≠ .boot ∧ s.link.frame = .command ∧ s.link.longCommand = .none ∧ s.mode ≠ .fault ∧
       s.store.job = none) ∧
    (let s := framed .command (persisting (job 0#8 .program) (.programming .mapStore 0 9))
     s.atRest ∧ s.mode ≠ .boot ∧ s.link.frame = .command ∧ s.link.longCommand = .none ∧ s.mode ≠ .fault ∧
       s.store.job ≠ none) := by decide +kernel

theorem witness_RearmPromotesEveryPinnedEntry :
    (let s := framed .command (inMode .fault running)
     s.atRest ∧ s.mode ≠ .boot ∧ s.link.frame = .command ∧ s.mode = .fault) ∧
    (let s := framed .command (withEntry (entryIn .pinned))
     s.atRest ∧ s.mode ≠ .boot ∧ s.link.frame = .command ∧ s.mode ≠ .fault ∧
       s.table.entries[(0 : Index)].state = .pinned) ∧
    (∀ u ∈ [withEntry (entryIn .pinned), running],
      let s := framed .command { inMode .holdup u with flush := .done, pfw := true }
      s.atRest ∧ s.mode ≠ .boot ∧ s.link.frame = .command ∧ s.mode = .holdup ∧ s.flush = .done ∧
        flushDoneHolds s = true) := by decide +kernel

theorem witness_AlertAndReportsFollowTheFlags :
    EventUnit.reset.capture = none ∧ ({ EventUnit.reset with capture := some someError } : EventUnit).capture ≠ none := by
  decide +kernel

theorem witness_SetFlagStaysSetUntilClearedOrReset :
    let s : State := { running with events := raiseFlag .range running.events }
    exec (.hostWrite 66 7#8) s = .next (after (.hostWrite 66 7#8) s) ∧ ¬ assertsReset (.hostWrite 66 7#8) ∧
      ¬ isLinkByte (.hostWrite 66 7#8) ∧ (∀ b, Instr.hostWrite 66 7#8 ≠ .clearEvents b) ∧
      flagIn s.events.flags .range = true := by
  refine ⟨exec_hostWrite_after _ _ _, ?_, id, ?_, by decide +kernel⟩
  · rintro (h | h) <;> cases h
  · intro b h; cases h

theorem exec_verifyComplete_answers (s : State) : ∃ t, exec .verifyComplete s = .next t := by
  simp only [exec, execVerifyComplete, State.event]
  cases s.inReset <;> exact ⟨_, rfl⟩

theorem witness_MapRecordsAreNeverRemoved :
    let s := committing (commit 0xFF#8 (.spare 0) true 1) .verifying (.reading (.verify 34))
    (∃ t, exec .verifyComplete s = .next t) ∧ ¬ assertsReset .verifyComplete ∧ s.inReset = false ∧
      s.boot.stage = .ended := by
  refine ⟨exec_verifyComplete_answers _, ?_, by decide +kernel, by decide +kernel⟩
  rintro (h | h) <;> cases h

theorem witness_FaultIsLeftByResetAlone :
    let s : State := { inMode .fault running with port := .faulted }
    (∃ t, exec (.hostWrite 66 7#8) s = .next t) ∧ ¬ assertsReset (.hostWrite 66 7#8) ∧ s.inReset = false ∧
      s.mode = .fault ∧ s.boot.stage = .ended ∧ s.port = .faulted ∧ s.store.job = none ∧ s.flush = .none := by
  refine ⟨⟨_, exec_hostWrite_after _ _ _⟩, ?_, by decide +kernel⟩
  rintro (h | h) <;> cases h

theorem witness_NoWriteIsAcceptedInHoldup :
    let s := inMode .holdup running
    (∃ t, exec (.hostWrite 66 7#8) s = .next t) ∧ s.inReset = false ∧ s.mode = .holdup ∧ s.boot.stage = .ended ∧
      waitingWrite s.host = none ∧ Instr.hostWrite 66 7#8 ≠ .powerOnReset ∧ Instr.hostWrite 66 7#8 ≠ .clearCounters ∧
      ¬ isLinkByte (.hostWrite 66 7#8) :=
  ⟨⟨_, exec_hostWrite_after _ _ _⟩, by decide +kernel, by decide +kernel, by decide +kernel, by decide +kernel,
    by decide, by decide, id⟩

/-- `running` with a host write waiting in the queue. -/
def aboutToWrite : State := running.setPending [.hostWrite 66 7#8]

theorem aboutToWrite_steps : ∃ t, step aboutToWrite = .next t := ⟨_, exec_hostWrite_after 66 7#8 running⟩

theorem aboutToWrite_table_law : TableLaw aboutToWrite :=
  let h := running_table_law
  { paged := h.paged, distinct := h.distinct, free := h.free, known := h.known, clean := h.clean, changed := h.changed
    queue := h.queue, cleans := h.cleans, budget := h.budget, committing := h.committing, change := h.change
    filled := h.filled, stages := h.stages, reading := h.reading, programming := h.programming
    boot := fun b => ⟨(h.boot b).mode, (h.boot b).free, (h.boot b).record, (h.boot b).job, (h.boot b).port, (h.boot b).host⟩ }

theorem aboutToWrite_map_law : MapLaw aboutToWrite where
  capacity := by decide +kernel
  ascending := List.Pairwise.nil
  bound _ h := nomatch h
  retired _ h := nomatch h
  remapped _ h := nomatch h
  distinct := List.nodup_nil
  pages i p h := by
    change (running.table.entries[i]).page = some p at h
    rw [running_entries] at h
    cases h
  record _ h := nomatch h
  waiting _ _ h := nomatch h
  boot h := by rcases h with h | h <;> first | cases h | exact absurd rfl h

theorem aboutToWrite_persist_law : PersistLaw aboutToWrite where
  target _ h := nomatch h
  mapProgram _ _ h := nomatch h
  commitProgram _ _ h := nomatch h
  record _ h := nomatch h
  boot h := by rcases h with h | h <;> first | cases h | exact absurd rfl h

theorem witness_EveryStepKeepsTheMemoryCanonical : MemoryLaw aboutToWrite ∧ ∃ t, step aboutToWrite = .next t :=
  ⟨empty_memory_law rfl, aboutToWrite_steps⟩

theorem witness_EveryStepKeepsTheSettleTableLaws : TableLaw aboutToWrite ∧ ∃ t, step aboutToWrite = .next t :=
  ⟨aboutToWrite_table_law, aboutToWrite_steps⟩

theorem witness_EveryStepKeepsTheRemapMapLaws :
    TableLaw aboutToWrite ∧ MapLaw aboutToWrite ∧ ∃ t, step aboutToWrite = .next t :=
  ⟨aboutToWrite_table_law, aboutToWrite_map_law, aboutToWrite_steps⟩

/-- A job at copy B's header, being programmed, with copy A current. -/
def jobOverA : State :=
  { persisting { job 0#8 .program with target := .b } (.programming .mapStore 17 25) with
    store := { running.store with current := some .a, jobRunning := true, jobData := { job 0#8 .program with target := .b } } }

theorem jobOverA_persist_law : PersistLaw jobOverA where
  target j h := by cases h; decide
  mapProgram page limit h := by cases h; exact ⟨_, rfl, by decide⟩
  commitProgram _ _ h := nomatch h
  record _ h := nomatch h
  boot h := by rcases h with h | h <;> first | cases h | exact absurd rfl h

theorem aboutToWrite_target_law : TargetLaw aboutToWrite where
  home _ h := nomatch h
  spare _ _ h := nomatch h
  program _ _ h := nomatch h

/-- A commit of page 0 at a trial of spare 2, with spare 0 RETIRED and spare 1 holding page 5. -/
def trialOverRecords : State :=
  let r : CommitRecord := { commit 0#8 (.spare 2) true 1 with targetPage := 36 }
  let s := committing r .programming (.programming .commitEngine 36 25)
  { s with
    remap :=
      { running.remap with
        records := [{ kind := .retired, spare := 0, page := 0 }, { kind := .remap, spare := 1, page := 5 }] } }

theorem trialOverRecords_target_law : TargetLaw trialOverRecords where
  home r h t := by cases h; cases t
  spare r n h t := by cases h; cases t; exact ⟨rfl, by decide, fun x => nomatch x⟩
  program page limit h := by cases h; exact ⟨_, rfl, rfl⟩

theorem trialOverRecords_map_law : MapLaw trialOverRecords where
  capacity := by decide +kernel
  ascending := by decide
  bound := by decide
  retired := by decide
  remapped := by decide
  distinct := by decide
  pages i p h := by
    have all : ∀ i : Index, trialOverRecords.table.entries[i].page.all (· < 4030) = true := by decide +kernel
    have x := all i
    rw [h] at x
    exact of_decide_eq_true x
  record r h := by cases h; exact ⟨by decide, fun _ => ⟨2, rfl, by decide, by decide⟩⟩
  waiting _ _ h := nomatch h
  boot h := by rcases h with h | h <;> first | cases h | exact absurd rfl h

theorem witness_CurrentMapCopyIsNeverProgrammed :
    (TableLaw aboutToWrite ∧ MapLaw aboutToWrite ∧ PersistLaw aboutToWrite ∧ TargetLaw aboutToWrite ∧
      ∃ t, step aboutToWrite = .next t) ∧
    (PersistLaw jobOverA ∧ jobOverA.port = .programming .mapStore 17 25 ∧ jobOverA.store.current = some .a) ∧
    (MapLaw trialOverRecords ∧ TargetLaw trialOverRecords ∧
      trialOverRecords.port = .programming .commitEngine 36 25 ∧
      (∃ m ∈ trialOverRecords.remap.records, m.kind = .retired) ∧ ∃ m ∈ trialOverRecords.remap.records, m.kind = .remap) :=
  ⟨⟨aboutToWrite_table_law, aboutToWrite_map_law, aboutToWrite_persist_law, aboutToWrite_target_law, aboutToWrite_steps⟩,
    ⟨jobOverA_persist_law, by decide +kernel, by decide +kernel⟩,
    ⟨trialOverRecords_map_law, trialOverRecords_target_law, by decide +kernel, by decide +kernel, by decide +kernel⟩⟩

end Sys2Proof.Tests
end

section
/-! Region policies (chapter 03): which record resolution answers. -/
namespace Sys2Proof.Machine

/-- The Boolean test of the model is the range of R51. -/
theorem regionContains_iff (g : Region) (page : Nat) :
    regionContains g page = true ↔ g.first ≤ page ∧ page < g.first + g.count := by
  simp [regionContains]

/-- A region that contains the page, below which no region does, decides the page's record (R51). -/
theorem resolvePolicy_of_first {t : RegionTable} {page : Nat} {i : Fin 4}
    (contains : regionContains t.region[i] page = true)
    (lower : ∀ j : Fin 4, j < i → ¬ regionContains t.region[j] page = true) :
    resolvePolicy t page = t.region[i].record := by
  have found : t.region.toList.find? (fun g => regionContains g page) = some t.region[i] := by
    refine List.find?_eq_some_iff_getElem.mpr ⟨contains, i, by simp, by simp, fun j hj => ?_⟩
    simpa using lower ⟨j, Nat.lt_trans hj i.isLt⟩ hj
  simp only [resolvePolicy, found]

/-- A page in no region takes the default record (R51). -/
theorem resolvePolicy_of_none {t : RegionTable} {page : Nat}
    (outside : ∀ i : Fin 4, ¬ regionContains t.region[i] page = true) : resolvePolicy t page = t.dflt := by
  have missed : t.region.toList.find? (fun g => regionContains g page) = none := by
    refine List.find?_eq_none.mpr fun g hg => ?_
    obtain ⟨i, hi, rfl⟩ := Vector.mem_iff_getElem.mp (Vector.mem_toList_iff.mp hg)
    exact outside ⟨i, hi⟩
  simp only [resolvePolicy, missed]

/-- Settles O12: the search over the four records stops at the first region that contains the page. -/
theorem lowestEnabledRegionDecides : Obligations.LowestEnabledRegionDecides := by
  intro t page
  simp only [← regionContains_iff]
  exact ⟨fun _ => resolvePolicy_of_first, resolvePolicy_of_none⟩

end Sys2Proof.Machine
end

section
/-! The management link (chapter 10): configuration (R190 to R192) and counters (R187). -/
namespace Sys2Proof.Machine

/-! ### The two shapes of a reply (R180, R182) -/

section
variable {s : State} (hr : s.atRest) (hm : s.mode ≠ .boot) {c : Command} (short : isLong c = false)
include hr hm short

/-- A command without arguments that answers OK leaves its effect and its response bytes. -/
theorem State.event_takeBare_of_answer (hf : s.link.frame = .command) {bytes : List Byte} {after : State}
    (h : commandReply c [] s = answer bytes after) :
    s.event (State.takeBare c) = .next (after.setFrame (.response (0x80#8 :: bytes))) := by
  rw [State.event_takeBare hr hf, State.takeEffect_of_short hm short, h]
  rfl

variable {taken : List Byte} (hf : s.link.frame = .arguments c taken) (last : taken.length + 1 = argumentCount c)
  {b : Byte}
include hf last

/-- So does a command with arguments, at its last argument byte. -/
theorem State.event_takeWithLast_of_answer {bytes : List Byte} {after : State}
    (h : commandReply c (taken ++ [b]) s = answer bytes after) :
    s.event (State.takeWithLast c b) = .next (after.setFrame (.response (0x80#8 :: bytes))) := by
  rw [State.event_takeWithLast hr hf last, State.takeEffect_of_short hm short, h]
  rfl

/-- One that its own checks turn down changes the frame alone, and answers zeros after the status. -/
theorem State.event_takeWithLast_of_turnDown {st : Status}
    (h : commandReply c (taken ++ [b]) s = turnDown st s) (hst : st ≠ .ok) :
    s.event (State.takeWithLast c b) =
      .next (s.setFrame (.response (statusCode st :: List.replicate (responseCount c) 0#8))) := by
  rw [State.event_takeWithLast hr hf last, State.takeEffect_of_short hm short, h]
  simp [turnDown, responseBytes, hst]

end

/-! ### Counters (R187) -/

/-- Index i + 1 reads counter i. -/
theorem replyGetCounter_of_index {b : Byte} {i : Fin 10} (h : b.toNat = i.val + 1) (s : State) :
    replyGetCounter [b] s = answer (bytes32 s.events.counters[i]) s := by
  have found : s.events.counters[b.toNat - 1]? = some s.events.counters[i] := by simp [h]
  have positive : b.toNat ≠ 0 := by omega
  simp only [replyGetCounter, arg, List.getD_cons_zero, positive, found, if_false]

/-- Index 0 and an index above 10 name no counter. -/
theorem replyGetCounter_of_outside {b : Byte} (h : b.toNat = 0 ∨ 10 < b.toNat) (s : State) :
    replyGetCounter [b] s = turnDown .badParam s := by
  rcases h with zero | above
  · simp [replyGetCounter, arg, zero]
  · have missed : s.events.counters[b.toNat - 1]? = none := by simp; omega
    simp [replyGetCounter, arg, missed]

/-- Settles O43: the index picks the counter, and clearing replaces the ten counters of the event unit alone. -/
theorem countersAreReadByIndexAndClearedTogether : Obligations.CountersAreReadByIndexAndClearedTogether := by
  intro s b hr hm
  refine ⟨fun i hf hb => ?read, fun hf hb => ?outside, by decide, fun hf => ?clear⟩
  case read =>
    exact State.event_takeWithLast_of_answer hr hm rfl hf rfl (replyGetCounter_of_index hb s)
  case outside =>
    exact State.event_takeWithLast_of_turnDown hr hm rfl hf rfl (replyGetCounter_of_outside hb s) nofun
  case clear =>
    exact State.event_takeBare_of_answer (c := .clearCounters) hr hm rfl hf rfl

/-! ### A configuration change is reported (R148) -/

/-- The map store after the report of a configuration change: PENDING, and a running job is followed by another. -/
def reportedStore (m : MapStore) : MapStore :=
  if m.job = none then { m with status := .pending }
  else { m with status := .pending, persistAgain := true, changedSince := true }

/-- The report changes the map store alone (R148). -/
theorem State.configChange_eq_reportedStore (s : State) : s.configChange = s.setStore (reportedStore s.store) := by
  unfold State.configChange reportedStore
  cases s.store.job <;> rfl

/-! ### SET_CONFIG (R190, R191) -/

@[simp] theorem State.setItem_store (i : ConfigItem) (v : Nat) (s : State) : (s.setItem i v).store = s.store := by
  cases i <;> rfl

theorem State.setItem_defaultPolicy {v : Nat} {p : Policy} (h : policyOfCode v = some p) (s : State) :
    s.setItem .defaultPolicy v = s.setDflt { s.regions.dflt with policy := p } := by
  simp [State.setItem, h]

theorem itemOfByte_of_toNat {b : Byte} {n : Nat} (h : b.toNat = n) : itemOfByte b = itemOfByte (BitVec.ofNat 8 n) := by
  rw [← h, BitVec.ofNat_toNat, BitVec.setWidth_eq]

/-- Only the items 00h to 08h are known. -/
theorem itemOfByte_of_above {b : Byte} (h : 8 < b.toNat) : itemOfByte b = none := by
  unfold itemOfByte
  split <;> simp_all

/-- The least value that an item takes in a state: its range, and an age limit not below the quiet time. -/
def itemLow (s : State) : ConfigItem → Nat
  | .budget | .writeStall | .readStall | .defaultQuiet => 1
  | .retryLimit | .filler | .sparesLow | .defaultPolicy => 0
  | .defaultAge => max 10 s.regions.dflt.quiet

/-- The greatest value that an item takes in a state: its range, and a quiet time not above the age limit. -/
def itemHigh (s : State) : ConfigItem → Nat
  | .budget => 32
  | .retryLimit => 3
  | .writeStall | .readStall | .filler => 255
  | .sparesLow => 256
  | .defaultPolicy => 2
  | .defaultQuiet => min 4095 s.regions.dflt.age
  | .defaultAge => 65535

/-- The checks of R191's steps 2 and 3 come to one interval. -/
theorem itemChecks_iff (i : ConfigItem) (v : Nat) (s : State) :
    itemInRange i v = true ∧ keepsAgeAboveQuiet i v s = true ↔ itemLow s i ≤ v ∧ v ≤ itemHigh s i := by
  cases i
  case defaultQuiet | defaultAge => simp [itemInRange, keepsAgeAboveQuiet, itemLow, itemHigh]; omega
  all_goals simp [itemInRange, keepsAgeAboveQuiet, itemLow, itemHigh]

section
variable {s : State} {item hi lo : Byte}

theorem replySetConfig_of_unknown (h : itemOfByte item = none) :
    replySetConfig [item, hi, lo] s = turnDown .badParam s := by
  simp [replySetConfig, arg, h]

/-- The checks on the value of a known item come first, then the one against the dirty count (R191). -/
theorem replySetConfig_of_known {i : ConfigItem} (h : itemOfByte item = some i) :
    replySetConfig [item, hi, lo] s =
      if itemLow s i ≤ num16 hi lo ∧ num16 hi lo ≤ itemHigh s i then
        if i = .budget ∧ num16 hi lo < dirtyCount s.table then turnDown .refused s
        else answer [] (s.setItem i (num16 hi lo)).configChange
      else turnDown .badParam s := by
  simp only [← itemChecks_iff]
  cases hrange : itemInRange i (num16 hi lo) <;> cases hage : keepsAgeAboveQuiet i (num16 hi lo) s <;>
    simp [replySetConfig, arg, arg16, h, hrange, hage]

variable (hr : s.atRest) (hm : s.mode ≠ .boot) (hf : s.link.frame = .arguments .setConfig [item, hi])
include hr hm hf

/-- Step 1 of R191: no other item is settable. -/
theorem exec_setConfig_of_unknown (h : itemOfByte item = none) :
    exec (.setConfig lo) s = .next (s.setFrame (.response [0x82#8])) :=
  State.event_takeWithLast_of_turnDown hr hm rfl hf rfl (replySetConfig_of_unknown h) nofun

/-- Step 4 of R191: a budget of its interval below the dirty count is REFUSED. -/
theorem exec_setConfig_of_belowDirty (h : itemOfByte item = some .budget)
    (hv : itemLow s .budget ≤ num16 hi lo ∧ num16 hi lo ≤ itemHigh s .budget)
    (hd : num16 hi lo < dirtyCount s.table) : exec (.setConfig lo) s = .next (s.setFrame (.response [0x83#8])) := by
  have reply : replySetConfig [item, hi, lo] s = turnDown .refused s := by
    rw [replySetConfig_of_known h, if_pos hv, if_pos ⟨rfl, hd⟩]
  exact State.event_takeWithLast_of_turnDown hr hm rfl hf rfl reply nofun

variable {i : ConfigItem} (known : itemOfByte item = some i)
include known

/-- Steps 2 and 3 of R191. -/
theorem exec_setConfig_of_outside (hv : num16 hi lo < itemLow s i ∨ itemHigh s i < num16 hi lo) :
    exec (.setConfig lo) s = .next (s.setFrame (.response [0x82#8])) := by
  have reply : replySetConfig [item, hi, lo] s = turnDown .badParam s := by
    rw [replySetConfig_of_known known, if_neg (by omega)]
  exact State.event_takeWithLast_of_turnDown hr hm rfl hf rfl reply nofun

/-- Past the checks the item takes the value and the change is reported. -/
theorem exec_setConfig_of_within (hd : i = .budget → dirtyCount s.table ≤ num16 hi lo)
    (hv : itemLow s i ≤ num16 hi lo ∧ num16 hi lo ≤ itemHigh s i) :
    exec (.setConfig lo) s =
      .next (((s.setItem i (num16 hi lo)).setStore (reportedStore s.store)).setFrame (.response [0x80#8])) := by
  have enough : ¬ (i = .budget ∧ num16 hi lo < dirtyCount s.table) := fun ⟨budget, below⟩ =>
    Nat.not_lt.mpr (hd budget) below
  have reply : replySetConfig [item, hi, lo] s =
      answer [] ((s.setItem i (num16 hi lo)).setStore (reportedStore s.store)) := by
    rw [replySetConfig_of_known known, if_pos hv, if_neg enough, State.configChange_eq_reportedStore,
      State.setItem_store]
  exact State.event_takeWithLast_of_answer hr hm rfl hf rfl reply

/-- A known item takes a value of its interval, and turns down any other. -/
theorem exec_setConfig_of_known (hd : i = .budget → dirtyCount s.table ≤ num16 hi lo) :
    (itemLow s i ≤ num16 hi lo → num16 hi lo ≤ itemHigh s i →
      exec (.setConfig lo) s =
        .next (((s.setItem i (num16 hi lo)).setStore (reportedStore s.store)).setFrame (.response [0x80#8]))) ∧
    (num16 hi lo < itemLow s i ∨ itemHigh s i < num16 hi lo →
      exec (.setConfig lo) s = .next (s.setFrame (.response [0x82#8]))) :=
  ⟨fun low high => exec_setConfig_of_within hr hm hf known hd ⟨low, high⟩,
    exec_setConfig_of_outside hr hm hf known⟩

end

/-- Settles O46: every item's checks come to one interval, within which the item alone takes the value. -/
theorem setConfigChecksThenTakesOneItem : Obligations.SetConfigChecksThenTakesOneItem := by
  intro s item hi lo hr hm hf
  have takes {i : ConfigItem} := @exec_setConfig_of_known s item hi lo hr hm hf i
  have turnsDown {i : ConfigItem} := @exec_setConfig_of_outside s item hi lo hr hm hf i
  refine ⟨fun hn low high below => ?refused, fun enough hn => ?budget, fun hn outside => ?budgetOutside, fun hn => ?retry,
    fun hn => ?writeStall, fun hn => ?readStall, fun hn => ?filler, fun hn => ?sparesLow, fun p code hn => ?policy,
    fun hn above => ?policyOutside, fun hn => ?quiet, fun hn => ?age, fun above => ?unknown⟩
  case refused => exact exec_setConfig_of_belowDirty hr hm hf (itemOfByte_of_toNat hn) ⟨low, high⟩ below
  case budget => exact takes (itemOfByte_of_toNat hn) fun _ => enough
  case budgetOutside => exact turnsDown (itemOfByte_of_toNat hn) outside
  case retry | writeStall | readStall | filler | sparesLow | quiet | age =>
    exact takes (itemOfByte_of_toNat hn) nofun
  case policy =>
    have named : policyOfCode (num16 hi lo) = some p := by
      rcases code with ⟨rfl, hv⟩ | ⟨rfl, hv⟩ | ⟨rfl, hv⟩ <;> exact congrArg policyOfCode hv
    have both := takes (i := .defaultPolicy) (itemOfByte_of_toNat hn) nofun
    rwa [State.setItem_defaultPolicy named] at both
  case policyOutside => exact turnsDown (itemOfByte_of_toNat hn) (.inr above)
  case unknown => exact exec_setConfig_of_unknown hr hm hf (itemOfByte_of_above above)

/-! ### SET_REGION (R50, R192) -/

/-- The checks of R50 on the values of a region record. -/
theorem regionValid_iff (capacity : Nat) (g : Region) :
    regionValid capacity g = true ↔
      1 ≤ g.record.quiet ∧ g.record.quiet ≤ 4095 ∧ 10 ≤ g.record.age ∧ g.record.age ≤ 65535 ∧
        g.record.quiet ≤ g.record.age ∧ g.first + g.count ≤ capacity := by
  simp [regionValid, recordValid, and_assoc]

/-- The codes 0, 1 and 2 name a policy, no other byte does (R49). -/
theorem policyOfCode_toNat (p : Byte) :
    policyOfCode p.toNat =
      if p.toNat ≤ 2 then some (if p = 0#8 then .absorb else if p = 1#8 then .through else .locked) else none := by
  simp only [← BitVec.toNat_inj]
  match p.toNat with
  | 0 | 1 | 2 => rfl
  | n + 3 => simp [policyOfCode]

/-- A region that passes the checks replaces the one at the index, and the change is reported. -/
theorem replySetRegion_of_valid {args : List Byte} {g : Region} {i : Fin 4} {s : State}
    (hg : regionOfArgs args = some g) (hi : (arg args 0).toNat = i.val) (hv : regionValid s.remap.capacity g = true) :
    replySetRegion args s =
      answer []
        ((s.setRegions { s.regions with region := s.regions.region.set i g }).setStore (reportedStore s.store)) := by
  simp [replySetRegion, hg, hi, hv, State.configChange_eq_reportedStore]

/-- A failed check turns the command down, whichever it is. -/
theorem replySetRegion_of_invalid {args : List Byte} {s : State}
    (h : ∀ g, regionOfArgs args = some g → regionValid s.remap.capacity g = true → ¬ (arg args 0).toNat < 4) :
    replySetRegion args s = turnDown .badParam s := by
  unfold replySetRegion
  cases hg : regionOfArgs args with
  | none => rfl
  | some g =>
    by_cases hv : regionValid s.remap.capacity g = true
    · simp [h g hg hv]
    · simp [hv]

/-- Settles O47: the checks of R50 decide between the one region's replacement and BAD_PARAM. -/
theorem setRegionReplacesOneRegionWhole : Obligations.SetRegionReplacesOneRegionWhole := by
  intro s index f1 f0 c1 c0 p q1 q0 a1 a0 hr hm hf first count quiet age good
  have named : regionOfArgs [index, f1, f0, c1, c0, p, q1, q0, a1, a0] =
      (policyOfCode p.toNat).map fun policy => { first, count, record := { policy, quiet, age } } := rfl
  rw [policyOfCode_toNat] at named
  refine ⟨fun bad => ?bad, fun i holds hi => ?good⟩
  case bad =>
    refine State.event_takeWithLast_of_turnDown hr hm rfl hf rfl
      (replySetRegion_of_invalid fun g hg hv hi => bad ?_) nofun
    replace hg := named.symm.trans hg
    by_cases hp : p.toNat ≤ 2
    · rw [if_pos hp] at hg
      obtain rfl := Option.some.inj hg
      exact ⟨hi, hp, (regionValid_iff _ _).mp hv⟩
    · rw [if_neg hp] at hg
      cases hg
  case good =>
    obtain ⟨_, hp, checks⟩ := holds
    rw [if_pos hp] at named
    exact State.event_takeWithLast_of_answer hr hm rfl hf rfl
      (replySetRegion_of_valid named hi ((regionValid_iff _ _).mpr checks))

end Sys2Proof.Machine
end

section
/-! What every row does: the pin it moves, its own effect, and the properties that a row keeps because everything it
runs keeps them. -/
namespace Sys2Proof.Machine

/-! ### The two parts of a row from outside -/

/-- What a row does to an input pin before anything else; the other rows move none. -/
def State.movePin : Instr → State → State
  | .hostWrite _ _ => State.assertStrobe .write
  | .hostRead _ => State.assertStrobe .read
  | .arrivalConditionFalse => State.setStrobe none
  | .pfwAsserted => fun s => s.setPfw true
  | .pfwDeasserted => fun s => s.setPfw false
  | .frameBegin => State.lcsFalls
  | .frameEnd => State.lcsRises
  | _ => id

/-- What a row from outside does once the step before it is complete and its pin has moved. The reset rows, the release,
the tick and the follow-on rows have no effect of this kind. -/
def State.outsideEffect : Instr → State → State
  | .hostWrite a d => State.writeStrobe a d
  | .hostRead a => State.readStrobe a
  | .arrivalConditionFalse => State.followStrobe
  | .stallExpiry => fun s => if stallExpired s.host then s.stallExpires else s
  | .quietDeadlineExpiry i => fun s => if s.table.entries[i].quiet = some 0 then s.quietExpires i else s
  | .ageDeadlineExpiry i => fun s => if s.table.entries[i].age = some 0 then s.ageExpires i else s
  | .fillComplete => State.fillReadDone
  | .pageProgramComplete result => fun s => s.programDone result
  | .verifyComplete => State.verifyReadDone
  | .byteReadComplete => State.hostByteDone
  | .programLimitExpiry => fun s => if programLimitExpired s.port then s.programTimesOut else s
  | .mapStoreVerifyComplete => State.mapVerifyReadDone
  | .readyMrdyHigh result => fun s => s.mrdyHigh result
  | .readyTimeout => fun s => if readyExpired s then s.readyTimesOut else s
  | .loadPageReadComplete => State.loadReadDone
  | .pfwAsserted => State.pfwFalls
  | .pfwDeasserted => State.pfwRises
  | .unknownCommand code => fun s => if s.link.frame = .command ∧ commandOfCode code = none then s.takeUnknown else s
  | .getId => State.takeBare .getId
  | .getStatus => State.takeBare .getStatus
  | .getEvents => State.takeBare .getEvents
  | .getCapture => State.takeBare .getCapture
  | .releaseCapture => State.takeBare .releaseCapture
  | .clearCounters => State.takeBare .clearCounters
  | .sync => State.takeBare .sync
  | .save => State.takeBare .save
  | .rearm => State.takeBare .rearm
  | .clearEvents last => State.takeWithLast .clearEvents last
  | .setEnables last => State.takeWithLast .setEnables last
  | .getCounter last => State.takeWithLast .getCounter last
  | .queryPage last => State.takeWithLast .queryPage last
  | .readRecord last => State.takeWithLast .readRecord last
  | .getConfig last => State.takeWithLast .getConfig last
  | .setConfig last => State.takeWithLast .setConfig last
  | .setRegion last => State.takeWithLast .setRegion last
  | .linkByte b => fun s => s.frameByte b
  | _ => id

/-- The rows that are neither a reset row, nor the release, nor the tick, nor a follow-on row. -/
def isPlainRow (c : Instr) : Prop :=
  followOnOf c = none ∧ ¬ assertsReset c ∧ (∀ m p, c ≠ .releaseFromReset m p) ∧ c ≠ .timebaseTick

theorem State.next_ite (p : Prop) [Decidable p] (s t : State) :
    (if p then Host.Outcome.next s else .next t : Host.Outcome State Fault Refusal) = .next (if p then s else t) := by
  split <;> rfl

/-- A plain row: in reset its pin alone moves (log 20); else the step before it is completed first (log 1). -/
theorem exec_of_plainRow {c : Instr} (h : isPlainRow c) (s : State) :
    exec c s =
      .next (if s.inReset then State.movePin c s else State.outsideEffect c (State.movePin c s.settled)) := by
  obtain ⟨follows, resets, releases, ticks⟩ := h
  cases c
  case powerOnReset | rst => simp [assertsReset] at resets
  case releaseFromReset m p => exact absurd rfl (releases m p)
  case timebaseTick => exact absurd rfl ticks
  case clockStageEnd | syncComplete | saveComplete | persistJobStart | waitingWriteTakenAgain | pressure |
      byteReadGrant | mapStoreStepGrant | snapshot | programClaimGrant | verifyClaimGrant | flushDone => cases follows
  all_goals exact State.next_ite _ _ _

/-- A follow-on row is taken as one. -/
theorem exec_of_followOn {c : Instr} {f : FollowOn} (h : followOnOf c = some f) (s : State) :
    exec c s = s.followOn f := by
  cases c <;> cases h <;> rfl

/-- A follow-on row ends in the state that the rows due before it lead to, or in what it does there. -/
theorem State.followOn_cases (f : FollowOn) (s : State) :
    s.followOn f = .next (s.settledTo f) ∨
      ((s.settledTo f).due = some f ∧ s.followOn f = .next ((s.settledTo f).follow f)) := by
  unfold State.followOn
  by_cases h : (s.settledTo f).due = some f
  · exact .inr ⟨h, by simp [h]⟩
  · exact .inl (by simp [h])

/-- Every row is a reset row, the release, the tick, a follow-on row or a plain row. -/
theorem row_cases (c : Instr) :
    assertsReset c ∨ (∃ m p, c = .releaseFromReset m p) ∨ c = .timebaseTick ∨ (∃ f, followOnOf c = some f) ∨
      isPlainRow c := by
  by_cases resets : assertsReset c
  · exact .inl resets
  by_cases releases : ∃ m p, c = .releaseFromReset m p
  · exact .inr (.inl releases)
  by_cases ticks : c = .timebaseTick
  · exact .inr (.inr (.inl ticks))
  cases follows : followOnOf c with
  | some f => exact .inr (.inr (.inr (.inl ⟨f, rfl⟩)))
  | none =>
    refine .inr (.inr (.inr (.inr ⟨follows, resets, fun m p e => releases ⟨m, p, e⟩, ticks⟩)))

/-! ### Properties that a row keeps -/

/-- What an expiry waits for (R24, R66, R118, R124). -/
def expiryWaits (e : Expiry) (s : State) : Prop :=
  match e with
  | .quiet i => s.table.entries[i].quiet = some 0
  | .age i => s.table.entries[i].age = some 0
  | .stall => stallExpired s.host = true
  | .programLimit => programLimitExpired s.port = true
  | .ready => readyExpired s = true

/-- An entry's expiry that is found waits. -/
theorem entryExpiry_eq_some {t : SettleTable} {e : Expiry} (h : entryExpiry t = some e) :
    ∃ i : Index, (e = .quiet i ∧ t.entries[i].quiet = some 0) ∨ (e = .age i ∧ t.entries[i].age = some 0) := by
  unfold entryExpiry at h
  split at h
  · cases h
  · rename_i i found
    have waits := (firstIndex_eq_some_iff.mp found).1
    simp only [Bool.or_eq_true, beq_iff_eq] at waits
    by_cases quiet : t.entries[i].quiet = some 0
    · rw [if_pos quiet] at h
      cases h
      exact ⟨i, .inl ⟨rfl, quiet⟩⟩
    · rw [if_neg quiet] at h
      cases h
      exact ⟨i, .inr ⟨rfl, waits.resolve_left quiet⟩⟩

/-- The expiry that the tick finds first waits, and no reset is asserted. -/
theorem State.expiry_spec {s : State} {e : Expiry} (h : s.expiry = some e) : s.inReset = false ∧ expiryWaits e s := by
  unfold State.expiry at h
  cases reset : s.inReset with
  | true => rw [reset] at h; cases h
  | false =>
    refine ⟨rfl, ?_⟩
    rw [reset] at h
    cases entry : entryExpiry s.table with
    | some e' =>
      rw [entry] at h
      cases h
      rcases entryExpiry_eq_some entry with ⟨i, ⟨rfl, quiet⟩ | ⟨rfl, age⟩⟩
      · exact quiet
      · exact age
    | none =>
      simp only [entry, Bool.false_eq_true, if_false] at h
      split at h
      · rename_i stall; cases h; exact stall
      · split at h
        · rename_i limit; cases h; exact limit
        · split at h
          · rename_i ready; cases h; exact ready
          · cases h

/-- The commands of the link that a row can carry out (R179): its own, or any by LINK_BYTE (log 10). -/
def carriesOut (r : Instr) (c : Command) : Prop := isLinkByte r ∨ ∃ b, r = commandRow c b

/-- That everything which row `c` can run keeps a property: the follow-on rows, the expiries before a tick, the pins, and
the row's own effect. -/
structure Keeps (c : Instr) (P : State → Prop) : Prop where
  follow : ∀ f s, P s → s.due = some f → P (s.follow f)
  expire : ∀ e s, c = .timebaseTick ∨ c = expiryRow e → P s → s.inReset = false → expiryWaits e s → P (s.expire e)
  tick : c = .timebaseTick → ∀ s, P s → s.inReset = false → P s.tick
  powerOn : c = .powerOnReset → ∀ s, P s → P (s.resetBlocks EventUnit.reset)
  rst : c = .rst → ∀ s, P s → P (s.resetBlocks (eventsAfterRst (dirtyCount s.table) s.events))
  release : ∀ m p, c = .releaseFromReset m p → ∀ s, P s → s.inReset = true → P (s.release m p)
  host : ∀ h s, P s → h.pend = s.host.pend → P (s.setHost h)
  pfw : ∀ v s, P s → P (s.setPfw v)
  frame : ∀ lcs f s, P s → P (s.setLink { s.link with lcs := lcs, frame := f })
  arriveWrite : ∀ a d, c = .hostWrite a d → ∀ s, P s → s.inReset = false → P (s.arriveWrite a d)
  arriveRead : ∀ a, c = .hostRead a → ∀ s, P s → s.inReset = false → P (s.arriveRead a)
  fill : c = .fillComplete → ∀ s, P s → s.inReset = false → P s.fillReadDone
  program : ∀ r, c = .pageProgramComplete r → ∀ s, P s → s.inReset = false → P (s.programDone r)
  verify : c = .verifyComplete → ∀ s, P s → s.inReset = false → P s.verifyReadDone
  hostByte : c = .byteReadComplete → ∀ s, P s → s.inReset = false → P s.hostByteDone
  mapVerify : c = .mapStoreVerifyComplete → ∀ s, P s → s.inReset = false → P s.mapVerifyReadDone
  mrdy : ∀ r, c = .readyMrdyHigh r → ∀ s, P s → s.inReset = false → P (s.mrdyHigh r)
  load : c = .loadPageReadComplete → ∀ s, P s → s.inReset = false → P s.loadReadDone
  enterHoldup : c = .pfwAsserted → ∀ s, P s → s.inReset = false → s.mode = .run → P s.enterHoldup
  leaveHoldup : c = .pfwDeasserted → ∀ s, P s → s.inReset = false → s.mode = .holdup → P s.leaveHoldup
  command : ∀ k args, carriesOut c k → ∀ s, P s → s.inReset = false → P (s.takeEffect k args)

section
variable {c : Instr} {P : State → Prop} (k : Keeps c P)
include k

theorem Keeps.setFrame (f : Frame) {s : State} (h : P s) : P (s.setFrame f) := k.frame s.link.lcs f s h

theorem Keeps.followStrobe {s : State} (h : P s) : P s.followStrobe := by
  unfold State.followStrobe
  split
  · exact k.host _ s h rfl
  · exact h

theorem Keeps.movePin {s : State} (h : P s) : P (State.movePin c s) := by
  cases c
  case hostWrite | hostRead | arrivalConditionFalse => exact k.host _ s h rfl
  case pfwAsserted | pfwDeasserted => exact k.pfw _ s h
  case frameBegin =>
    show P s.lcsFalls
    unfold State.lcsFalls
    split
    · exact h
    · exact k.frame _ _ s h
  case frameEnd => exact k.frame _ _ s h
  all_goals exact h

theorem Keeps.takeBare {cmd : Command} (carries : carriesOut c cmd) {s : State} (h : P s) (up : s.inReset = false) :
    P (s.takeBare cmd) := by
  unfold State.takeBare
  split
  · exact k.command _ _ carries s h up
  · exact h

theorem Keeps.takeWithLast {cmd : Command} (carries : carriesOut c cmd) (last : Byte) {s : State} (h : P s)
    (up : s.inReset = false) : P (s.takeWithLast cmd last) := by
  unfold State.takeWithLast
  split
  · split
    · exact k.command _ _ carries s h up
    · exact h
  · exact h

theorem Keeps.frameByte (b : Byte) (link : isLinkByte c) {s : State} (h : P s) (up : s.inReset = false) :
    P (s.frameByte b) := by
  unfold State.frameByte
  split
  · split
    · exact k.setFrame _ h
    · split
      · exact k.command _ _ (.inl link) s h up
      · exact k.setFrame _ h
  · split
    · exact k.setFrame _ h
    · exact k.command _ _ (.inl link) s h up
  · exact k.setFrame _ h
  · exact k.setFrame _ h
  · exact h

theorem Keeps.expireIf {e : Expiry} (row : c = expiryRow e) {s : State} (h : P s) (up : s.inReset = false)
    [Decidable (expiryWaits e s)] : P (if expiryWaits e s then s.expire e else s) := by
  split
  · rename_i waits; exact k.expire e s (.inr row) h up waits
  · exact h

theorem Keeps.outsideEffect {s : State} (h : P s) (up : s.inReset = false) : P (State.outsideEffect c s) := by
  cases c
  case hostWrite a d =>
    show P (if s.host.bus = .idle then s.arriveWrite a d else s.followStrobe)
    split
    · exact k.arriveWrite a d rfl s h up
    · exact k.followStrobe h
  case hostRead a =>
    show P (if s.host.bus = .idle then s.arriveRead a else s.followStrobe)
    split
    · exact k.arriveRead a rfl s h up
    · exact k.followStrobe h
  case arrivalConditionFalse => exact k.followStrobe h
  case stallExpiry => exact @Keeps.expireIf _ _ k .stall rfl s h up (inferInstanceAs (Decidable (_ = true)))
  case quietDeadlineExpiry i =>
    exact @Keeps.expireIf _ _ k (.quiet i) rfl s h up (inferInstanceAs (Decidable (_ = some 0)))
  case ageDeadlineExpiry i =>
    exact @Keeps.expireIf _ _ k (.age i) rfl s h up (inferInstanceAs (Decidable (_ = some 0)))
  case programLimitExpiry => exact @Keeps.expireIf _ _ k .programLimit rfl s h up (inferInstanceAs (Decidable (_ = true)))
  case readyTimeout => exact @Keeps.expireIf _ _ k .ready rfl s h up (inferInstanceAs (Decidable (_ = true)))
  case fillComplete => exact k.fill rfl s h up
  case pageProgramComplete r => exact k.program r rfl s h up
  case verifyComplete => exact k.verify rfl s h up
  case byteReadComplete => exact k.hostByte rfl s h up
  case mapStoreVerifyComplete => exact k.mapVerify rfl s h up
  case readyMrdyHigh r => exact k.mrdy r rfl s h up
  case loadPageReadComplete => exact k.load rfl s h up
  case pfwAsserted =>
    show P (if s.mode = .run then s.enterHoldup else s)
    split
    · rename_i run; exact k.enterHoldup rfl s h up run
    · exact h
  case pfwDeasserted =>
    show P (if s.mode = .holdup then s.leaveHoldup else s)
    split
    · rename_i holdup; exact k.leaveHoldup rfl s h up holdup
    · exact h
  case unknownCommand code =>
    show P (if s.link.frame = .command ∧ commandOfCode code = none then s.takeUnknown else s)
    split
    · exact k.setFrame _ h
    · exact h
  case getId | getStatus | getEvents | getCapture | releaseCapture | clearCounters | sync | save | rearm =>
    exact k.takeBare (.inr ⟨0#8, rfl⟩) h up
  case clearEvents b | setEnables b | getCounter b | queryPage b | readRecord b | getConfig b | setConfig b | setRegion b =>
    exact k.takeWithLast (.inr ⟨b, rfl⟩) b h up
  case linkByte b => exact k.frameByte b trivial h up
  all_goals exact h

/-- A property that everything a row runs keeps is kept by the row, where `inReset` of the settled state is known. -/
theorem Keeps.settled {s : State} (h : P s) : P s.settled := State.settled_keeps k.follow h

theorem Keeps.settledTo {s : State} (h : P s) (f : FollowOn) : P (s.settledTo f) := State.settleFor_keeps k.follow _ _ h

end


end Sys2Proof.Machine
end

section
/-! Frames: which fields of the state each operation can change. A field that an equation does not name is unchanged. -/
namespace Sys2Proof.Machine

/-! ### The host port and the settle table -/

theorem State.offerUnordered_frame (errs : List (ErrorKind × Nat)) (s : State) :
    s.offerUnordered errs =
      { s with events := (s.offerUnordered errs).events, choices := (s.offerUnordered errs).choices } := by
  have fold : ∀ (l : List (ErrorKind × Nat)) (t : State),
      l.foldl (fun t e => t.offer e.1 e.2) t =
        { t with events := (l.foldl (fun t e => t.offer e.1 e.2) t).events } := by
    intro l
    induction l with
    | nil => intro t; rfl
    | cons e l ih => intro t; rw [List.foldl_cons, ih]; rfl
  unfold State.offerUnordered
  split
  · rfl
  · rfl
  · simp only [State.setChoices]
    rw [fold]

theorem State.placeStart_frame (s : State) : s.placeStart = { s with ce := s.placeStart.ce } := by
  rw [State.placeStart_eq]; rfl

theorem State.commitOver_frame (s : State) : s.commitOver = { s with ce := s.commitOver.ce } := by
  rw [State.commitOver_eq]; rfl

theorem State.takeResolvedWrite_frame {a : HostAddr} {d : Byte} {s t : State} (h : s.takeResolvedWrite a d = some t) :
    t = { s with table := t.table, events := t.events, host := t.host, ce := t.ce } := by
  rcases State.takeResolvedWrite_cases a d s with ⟨-, e⟩ | ⟨-, ⟨r, -, e⟩ | ⟨-, e⟩⟩ <;> rw [e] at h <;> cases h
  · rfl
  · rw [State.placeStart_frame]; rfl

theorem State.takeWrite_frame {a : HostAddr} {d : Byte} {s t : State} (h : s.takeWrite a d = some t) :
    t = { s with table := t.table, events := t.events, host := t.host, ce := t.ce } := by
  rcases State.takeWrite_cases a d s with ⟨-, e⟩ | ⟨-, e⟩ <;> rw [e] at h
  · cases h; rfl
  · exact State.takeResolvedWrite_frame h

theorem State.takeRead_frame {a : HostAddr} {s t : State} (h : s.takeRead a = some t) :
    t = { s with table := t.table, events := t.events, host := t.host } := by
  rcases State.takeRead_cases a s with ⟨-, e⟩ | ⟨-, ⟨i, b, -, e⟩ | ⟨-, ⟨-, e⟩ | ⟨-, e⟩⟩⟩ <;> rw [e] at h <;>
    cases h <;> rfl

/-- A write that is taken or held changes the table, the events, the host port and the start claim alone. -/
theorem State.takeWrite_getD_frame (a : HostAddr) (d : Byte) (s : State) (h : HostPort) :
    (s.takeWrite a d).getD (s.setHost h) =
      { s with
        table := ((s.takeWrite a d).getD (s.setHost h)).table, events := ((s.takeWrite a d).getD (s.setHost h)).events
        host := ((s.takeWrite a d).getD (s.setHost h)).host, ce := ((s.takeWrite a d).getD (s.setHost h)).ce } := by
  cases e : s.takeWrite a d with
  | none => rfl
  | some t => exact State.takeWrite_frame e

theorem State.takeRead_getD_frame (a : HostAddr) (s : State) (h : HostPort) :
    (s.takeRead a).getD (s.setHost h) =
      { s with
        table := ((s.takeRead a).getD (s.setHost h)).table, events := ((s.takeRead a).getD (s.setHost h)).events
        host := ((s.takeRead a).getD (s.setHost h)).host } := by
  cases e : s.takeRead a with
  | none => rfl
  | some t => exact State.takeRead_frame e

theorem State.arriveWrite_frame (a : HostAddr) (d : Byte) (s : State) :
    s.arriveWrite a d =
      { s with
        table := (s.arriveWrite a d).table, events := (s.arriveWrite a d).events, host := (s.arriveWrite a d).host
        ce := (s.arriveWrite a d).ce } := by
  unfold State.arriveWrite
  split
  · rfl
  · rfl
  · exact State.takeWrite_getD_frame a d s _

theorem State.arriveRead_frame (a : HostAddr) (s : State) :
    s.arriveRead a =
      { s with table := (s.arriveRead a).table, events := (s.arriveRead a).events, host := (s.arriveRead a).host } := by
  unfold State.arriveRead
  split
  · rfl
  · exact State.takeRead_getD_frame a s _

theorem State.takeHeld_frame (s : State) :
    s.takeHeld =
      { s with
        table := s.takeHeld.table, events := s.takeHeld.events, host := s.takeHeld.host, ce := s.takeHeld.ce } := by
  unfold State.takeHeld
  split
  · rfl
  · split
    · split
      · rfl
      · exact State.takeWrite_getD_frame _ _ s _
    · unfold State.setWait
      rw [State.takeRead_getD_frame]

theorem State.stallExpires_frame (s : State) :
    s.stallExpires = { s with events := s.stallExpires.events, host := s.stallExpires.host } := by
  unfold State.stallExpires
  split
  · rfl
  · split <;> rfl

theorem State.retakeWrite_frame (s : State) :
    s.retakeWrite =
      { s with
        table := s.retakeWrite.table, events := s.retakeWrite.events, host := s.retakeWrite.host
        ce := s.retakeWrite.ce } := by
  unfold State.retakeWrite
  split
  · rfl
  · rename_i a d _
    cases e : s.takeResolvedWrite a d with
    | none => rfl
    | some t => exact State.takeResolvedWrite_frame e

theorem State.applyPressure_frame (s : State) :
    s.applyPressure = { s with table := s.applyPressure.table, ce := s.applyPressure.ce } := by
  unfold State.applyPressure
  split
  · rfl
  · rw [State.placeStart_frame]; rfl

theorem State.grantByteRead_frame (s : State) :
    s.grantByteRead = { s with host := s.grantByteRead.host, port := s.grantByteRead.port } := by
  unfold State.grantByteRead
  split <;> rfl

theorem State.byteReadDone_frame (b : Byte) (s : State) :
    s.byteReadDone b = { s with events := (s.byteReadDone b).events, host := (s.byteReadDone b).host } := by
  unfold State.byteReadDone
  split <;> rfl

theorem State.hostByteDone_frame (s : State) :
    s.hostByteDone =
      { s with
        events := s.hostByteDone.events, host := s.hostByteDone.host, port := s.hostByteDone.port } := by
  unfold State.hostByteDone
  split
  · rw [State.byteReadDone_frame]; rfl
  · rfl

/-! ### The commit engine and the map store -/

theorem State.takeSnapshot_frame (s : State) :
    s.takeSnapshot = { s with table := s.takeSnapshot.table, ce := s.takeSnapshot.ce, port := s.takeSnapshot.port } := by
  unfold State.takeSnapshot
  split <;> rfl

theorem State.grantProgram_frame (s : State) :
    s.grantProgram =
      { s with
        pnv := s.grantProgram.pnv, port := s.grantProgram.port, ce := s.grantProgram.ce
        events := s.grantProgram.events } := by
  unfold State.grantProgram
  split <;> rfl

theorem State.grantVerify_frame (s : State) :
    s.grantVerify = { s with port := s.grantVerify.port, ce := s.grantVerify.ce } := by
  unfold State.grantVerify
  split <;> rfl

theorem State.grantMapStep_frame (s : State) :
    s.grantMapStep = { s with pnv := s.grantMapStep.pnv, port := s.grantMapStep.port } := by
  unfold State.grantMapStep
  split
  · rfl
  · split <;> rfl

theorem State.startReady_frame (s : State) :
    s.startReady = { s with boot := s.startReady.boot, port := s.startReady.port } := by
  unfold State.startReady
  split <;> rfl

theorem State.finishSave_frame (s : State) :
    s.finishSave =
      { s with link := s.finishSave.link, store := s.finishSave.store, events := s.finishSave.events } := by
  unfold State.finishSave
  split <;> rfl

theorem State.commitSucceeds_frame (r : CommitRecord) (s : State) :
    s.commitSucceeds r =
      { s with
        events := (s.commitSucceeds r).events, table := (s.commitSucceeds r).table, ce := (s.commitSucceeds r).ce } := by
  unfold State.commitSucceeds
  rw [State.commitOver_frame]; rfl

theorem State.commitPinned_frame (r : CommitRecord) (s : State) :
    s.commitPinned r = { s with table := (s.commitPinned r).table, ce := (s.commitPinned r).ce } := by
  unfold State.commitPinned
  rw [State.commitOver_frame]; rfl

theorem State.fillReadDone_frame (s : State) :
    s.fillReadDone =
      { s with
        events := s.fillReadDone.events, table := s.fillReadDone.table, ce := s.fillReadDone.ce
        port := s.fillReadDone.port } := by
  unfold State.fillReadDone
  split
  · simp only [State.fillDone]
    split
    · rw [State.commitSucceeds_frame]; rfl
    · rfl
  · rfl

theorem State.endProgramAt_frame (m : BitVec 2) (r : ProgramResult) (s : State) :
    s.endProgramAt m r = { s with pnv := (s.endProgramAt m r).pnv } := by
  unfold State.endProgramAt
  split <;> rfl

theorem State.programDone_frame (r : ProgramResult) (s : State) :
    s.programDone r =
      { s with
        pnv := (s.programDone r).pnv, port := (s.programDone r).port, ce := (s.programDone r).ce
        store := (s.programDone r).store } := by
  unfold State.programDone State.unseenRise State.endProgram State.endCutProgram
  split
  · rw [State.endProgramAt_frame]; rfl
  · rw [State.endProgramAt_frame]; rfl
  · split
    · rw [State.endProgramAt_frame]
    · rfl

/-- The spares-low test and the change report. -/
theorem State.sparesLowTest_mapChange_frame (s : State) :
    s.sparesLowTest.mapChange =
      { s with
        remap := s.sparesLowTest.mapChange.remap, events := s.sparesLowTest.mapChange.events
        store := s.sparesLowTest.mapChange.store } := by
  rw [State.mapChange_eq, State.sparesLowTest_eq]; rfl

theorem State.remapTo_frame (page n : Nat) (s : State) :
    s.remapTo page n =
      { s with
        remap := (s.remapTo page n).remap, events := (s.remapTo page n).events, store := (s.remapTo page n).store } := by
  unfold State.remapTo
  rw [State.sparesLowTest_mapChange_frame]; rfl

theorem State.retireSpare_frame (n : Nat) (s : State) :
    s.retireSpare n =
      { s with
        remap := (s.retireSpare n).remap, events := (s.retireSpare n).events, store := (s.retireSpare n).store } := by
  unfold State.retireSpare
  rw [State.sparesLowTest_mapChange_frame]; rfl

theorem State.giveUpTarget_frame (r : CommitRecord) (s : State) :
    s.giveUpTarget r =
      { s with
        remap := (s.giveUpTarget r).remap, events := (s.giveUpTarget r).events, store := (s.giveUpTarget r).store } := by
  unfold State.giveUpTarget
  split
  · exact State.retireSpare_frame _ s
  · rfl

theorem State.verifyMatches_frame (r : CommitRecord) (s : State) :
    s.verifyMatches r =
      { s with
        remap := (s.verifyMatches r).remap, events := (s.verifyMatches r).events, store := (s.verifyMatches r).store
        table := (s.verifyMatches r).table, ce := (s.verifyMatches r).ce } := by
  unfold State.verifyMatches
  split
  · rw [State.commitSucceeds_frame, State.remapTo_frame]
  · rw [State.commitSucceeds_frame]

theorem State.verifyMismatch_frame (r : CommitRecord) (s : State) :
    s.verifyMismatch r =
      { s with
        remap := (s.verifyMismatch r).remap, events := (s.verifyMismatch r).events
        store := (s.verifyMismatch r).store, table := (s.verifyMismatch r).table, ce := (s.verifyMismatch r).ce
        choices := (s.verifyMismatch r).choices } := by
  simp only [State.verifyMismatch]
  split
  · rfl
  · split
    · rw [State.giveUpTarget_frame]; rfl
    · rw [State.commitPinned_frame, State.offerUnordered_frame, State.giveUpTarget_frame]; rfl

theorem State.verifyReadDone_frame (s : State) :
    s.verifyReadDone =
      { s with
        remap := s.verifyReadDone.remap, events := s.verifyReadDone.events, store := s.verifyReadDone.store
        table := s.verifyReadDone.table, ce := s.verifyReadDone.ce, choices := s.verifyReadDone.choices
        port := s.verifyReadDone.port } := by
  unfold State.verifyReadDone State.verifyDone
  split
  · split
    · rw [State.verifyMatches_frame]; rfl
    · rw [State.verifyMismatch_frame]; rfl
  · rfl

theorem State.mapVerifyReadDone_frame (s : State) :
    s.mapVerifyReadDone =
      { s with
        events := s.mapVerifyReadDone.events, store := s.mapVerifyReadDone.store, port := s.mapVerifyReadDone.port } := by
  unfold State.mapVerifyReadDone State.mapVerified
  split
  · split
    · split <;> rfl
    · rfl
  · rfl

/-! ### Boot, hold-up and FAULT -/

theorem State.commitInFault_frame (s : State) :
    s.commitInFault = { s with table := s.commitInFault.table, ce := s.commitInFault.ce } := by
  unfold State.commitInFault
  split <;> rfl

theorem State.hostInFault_frame (s : State) :
    s.hostInFault = { s with events := s.hostInFault.events, host := s.hostInFault.host } := by
  unfold State.hostInFault
  split <;> rfl

theorem State.faultFlags_frame (s : State) : s.faultFlags = { s with events := s.faultFlags.events } := by
  unfold State.faultFlags
  split <;> rfl

theorem State.enterFault_frame (c : ErrorKind × Nat) (s : State) :
    s.enterFault c =
      { s with
        mode := .fault, port := .faulted, flush := .none, ce := { stage := .idle, record := none }
        store := storeInFault s.store, events := (s.enterFault c).events, table := (s.enterFault c).table
        host := (s.enterFault c).host, choices := (s.enterFault c).choices } := by
  obtain ⟨e, n, reported⟩ : ∃ e n,
      (s.offerUnordered (faultErrors c s)).faultFlags = { s with events := e, choices := n } :=
    ⟨_, _, by rw [State.faultFlags_frame, State.offerUnordered_frame]⟩
  obtain ⟨t, told⟩ : ∃ t,
      ((({ s with events := e, choices := n } : State).setStore (storeInFault s.store)).commitInFault).clearSyncMarks =
        { s with
          events := e, choices := n, store := storeInFault s.store, table := t
          ce := { stage := .idle, record := none } } := by
    unfold State.commitInFault
    split <;> exact ⟨_, rfl⟩
  simp only [State.enterFault, reported, told]
  rw [State.hostInFault_frame]; rfl

theorem State.raiseLoss_frame (s : State) : s.raiseLoss = { s with events := s.raiseLoss.events } := by
  unfold State.raiseLoss
  split <;> rfl

theorem State.enterHoldup_frame (s : State) :
    s.enterHoldup =
      { s with
        mode := .holdup, flush := .flushing
        table := promoteAll (settlingByAge s.time.stamp s.table) s.table
        host := s.enterHoldup.host, events := s.enterHoldup.events, ce := s.enterHoldup.ce } := by
  simp only [State.enterHoldup]
  rw [State.placeStart_frame]
  split <;> rfl

theorem State.refreshFlush_frame (s : State) : s.refreshFlush = { s with flush := s.refreshFlush.flush } := by
  unfold State.refreshFlush
  split <;> rfl

/-! ### The rows -/

/-- A follow-on row leaves queue, reset line, mode, straps, time, configuration, map, PFW# and the drawn choices. -/
theorem State.follow_frame (f : FollowOn) (s : State) :
    s.follow f =
      { s with
        boot := (s.follow f).boot, host := (s.follow f).host, table := (s.follow f).table, ce := (s.follow f).ce
        port := (s.follow f).port, pnv := (s.follow f).pnv, store := (s.follow f).store, flush := (s.follow f).flush
        link := (s.follow f).link, events := (s.follow f).events } := by
  cases f <;> simp only [State.follow]
  case clockStageEnd => rw [State.startReady_frame]
  case syncComplete => rfl
  case saveComplete => rw [State.finishSave_frame]
  case persistJobStart => rfl
  case waitingWriteTakenAgain => rw [State.retakeWrite_frame]
  case pressure => rw [State.applyPressure_frame]
  case byteReadGrant => rw [State.grantByteRead_frame]
  case mapStoreStepGrant => rw [State.grantMapStep_frame]
  case snapshot => rw [State.takeSnapshot_frame]
  case programClaimGrant => rw [State.grantProgram_frame]
  case verifyClaimGrant => rw [State.grantVerify_frame]
  case flushDone => rfl

theorem State.follow_pending (f : FollowOn) (s : State) : (s.follow f).pending = s.pending :=
  (congrArg State.pending (State.follow_frame f s) :)
theorem State.follow_inReset (f : FollowOn) (s : State) : (s.follow f).inReset = s.inReset :=
  (congrArg State.inReset (State.follow_frame f s) :)
theorem State.follow_mode (f : FollowOn) (s : State) : (s.follow f).mode = s.mode :=
  (congrArg State.mode (State.follow_frame f s) :)

/-- An entry's expiry changes the table and the start claim alone. -/
theorem State.quietExpires_frame (i : Index) (s : State) :
    s.quietExpires i = { s with table := (s.quietExpires i).table, ce := (s.quietExpires i).ce } := by
  unfold State.quietExpires
  rw [State.placeStart_frame]; rfl

theorem State.ageExpires_frame (i : Index) (s : State) :
    s.ageExpires i = { s with table := (s.ageExpires i).table, ce := (s.ageExpires i).ce } := by
  unfold State.ageExpires
  rw [State.placeStart_frame]; rfl

theorem State.programTimesOut_frame (s : State) :
    s.programTimesOut =
      { s with
        mode := s.programTimesOut.mode, port := s.programTimesOut.port, flush := s.programTimesOut.flush
        ce := s.programTimesOut.ce, store := s.programTimesOut.store, events := s.programTimesOut.events
        table := s.programTimesOut.table, host := s.programTimesOut.host, choices := s.programTimesOut.choices } := by
  unfold State.programTimesOut
  split
  · rw [State.enterFault_frame]
  · rfl

theorem State.readyTimesOut_frame (s : State) :
    s.readyTimesOut =
      { s with
        boot := { stage := .ended, pagesA := [], pagesB := [] }
        mode := s.readyTimesOut.mode, port := s.readyTimesOut.port, flush := s.readyTimesOut.flush
        ce := s.readyTimesOut.ce, store := s.readyTimesOut.store, events := s.readyTimesOut.events
        table := s.readyTimesOut.table, host := s.readyTimesOut.host, choices := s.readyTimesOut.choices } := by
  unfold State.readyTimesOut
  rw [State.enterFault_frame]; rfl

/-- The expiries leave queue, reset line, straps, time, configuration, map, PNV, PFW# and link. -/
theorem State.expire_frame (e : Expiry) (s : State) :
    s.expire e =
      { s with
        boot := (s.expire e).boot, mode := (s.expire e).mode, port := (s.expire e).port, flush := (s.expire e).flush
        ce := (s.expire e).ce, store := (s.expire e).store, events := (s.expire e).events
        table := (s.expire e).table, host := (s.expire e).host, choices := (s.expire e).choices } := by
  cases e <;> simp only [State.expire]
  case quiet i => rw [State.quietExpires_frame]
  case age i => rw [State.ageExpires_frame]
  case stall => rw [State.stallExpires_frame]
  case programLimit => rw [State.programTimesOut_frame]
  case ready => rw [State.readyTimesOut_frame]

theorem State.tick_frame (s : State) :
    s.tick =
      { s with
        host := tickStall s.host, time := s.tick.time, table := s.tick.table, port := s.tick.port
        boot := s.tick.boot } := by
  simp only [State.tick]
  split <;> rfl

theorem State.mrdyHigh_frame (r : ProgramResult) (s : State) :
    s.mrdyHigh r =
      { s with pnv := (s.mrdyHigh r).pnv, boot := (s.mrdyHigh r).boot, port := (s.mrdyHigh r).port } := by
  unfold State.mrdyHigh State.endCutProgram
  split
  · rw [State.endProgramAt_frame]; rfl
  · rfl

theorem State.endBoot_frame (s : State) :
    s.endBoot =
      { s with
        boot := s.endBoot.boot, port := s.endBoot.port, mode := s.endBoot.mode, flush := s.endBoot.flush
        table := s.endBoot.table, events := s.endBoot.events, host := s.endBoot.host, ce := s.endBoot.ce } := by
  simp only [State.endBoot]
  rw [State.takeHeld_frame]
  split
  · rw [State.raiseLoss_frame]; rfl
  · rw [State.raiseLoss_frame]; rfl

theorem State.loadReadDone_frame (s : State) :
    s.loadReadDone =
      { s with
        boot := s.loadReadDone.boot, port := s.loadReadDone.port, mode := s.loadReadDone.mode
        flush := s.loadReadDone.flush, table := s.loadReadDone.table, events := s.loadReadDone.events
        host := s.loadReadDone.host, ce := s.loadReadDone.ce, remap := s.loadReadDone.remap
        regions := s.loadReadDone.regions, cfg := s.loadReadDone.cfg, store := s.loadReadDone.store
        choices := s.loadReadDone.choices } := by
  unfold State.loadReadDone
  split
  · simp only [State.pageLoaded]
    split
    · rfl
    · split
      · rfl
      · simp only [State.selectAndBuild]
        split
        · rw [State.enterFault_frame, State.raiseLoss_frame]; rfl
        · split
          · rw [State.enterFault_frame, State.raiseLoss_frame]; rfl
          · split <;> rw [State.endBoot_frame] <;> rfl
  · rfl

/-- A link command leaves queue, reset line, mode, straps, time, boot loader, host port, port, PNV, PFW# and choices. -/
theorem commandReply_frame (c : Command) (args : List Byte) (s : State) :
    (commandReply c args s).after =
      { s with
        regions := (commandReply c args s).after.regions, cfg := (commandReply c args s).after.cfg
        table := (commandReply c args s).after.table, ce := (commandReply c args s).after.ce
        remap := (commandReply c args s).after.remap, store := (commandReply c args s).after.store
        flush := (commandReply c args s).after.flush, link := (commandReply c args s).after.link
        events := (commandReply c args s).after.events } := by
  cases c <;> simp only [commandReply]
  case getId | getStatus | getEvents | clearEvents | setEnables | getCapture | releaseCapture | clearCounters => rfl
  case getCounter =>
    simp only [replyGetCounter]
    split
    · rfl
    · split <;> rfl
  case queryPage => simp only [replyQueryPage]; split <;> rfl
  case readRecord => unfold replyReadRecord; split <;> rfl
  case getConfig =>
    simp only [replyGetConfig]
    split
    · rfl
    · split
      · rfl
      · split <;> rfl
  case setConfig =>
    simp only [replySetConfig]
    split
    · rfl
    · rename_i i _
      split
      · rfl
      · split
        · rfl
        · split
          · rfl
          · simp only [answer]
            rw [State.configChange_eq]
            cases i <;> rfl
  case setRegion =>
    simp only [replySetRegion]
    split
    · rfl
    · split
      · split
        · simp only [answer]
          rw [State.configChange_eq]; rfl
        · rfl
      · rfl
  case sync =>
    simp only [replySync]
    split
    · rfl
    · simp only [answer]
      rw [State.placeStart_frame]
      split <;> rfl
  case save =>
    simp only [replySave]
    split
    · rfl
    · simp only [answer]
      rw [State.refreshFlush_frame]; rfl
  case rearm =>
    simp only [replyRearm]
    split
    · rfl
    · simp only [answer]
      rw [State.refreshFlush_frame, State.placeStart_frame]; rfl

theorem State.takeEffect_frame (c : Command) (args : List Byte) (s : State) :
    s.takeEffect c args =
      { s with
        regions := (s.takeEffect c args).regions, cfg := (s.takeEffect c args).cfg
        table := (s.takeEffect c args).table, ce := (s.takeEffect c args).ce, remap := (s.takeEffect c args).remap
        store := (s.takeEffect c args).store, flush := (s.takeEffect c args).flush
        link := (s.takeEffect c args).link, events := (s.takeEffect c args).events } := by
  simp only [State.takeEffect, decideReply]
  split
  · rfl
  · split
    · rfl
    · rw [commandReply_frame]; rfl

end Sys2Proof.Machine
end

section
/-! A property that everything a row runs keeps is kept by the row; every row answers. -/
namespace Sys2Proof.Machine

theorem State.settled_inReset (s : State) : s.settled.inReset = s.inReset :=
  State.settled_keeps (P := fun t => t.inReset = s.inReset) (fun f t h _ => (State.follow_inReset f t).trans h) rfl

theorem State.readyForTick_inReset (s : State) : s.readyForTick.inReset = s.inReset := by
  refine State.readyForTick_keeps (P := fun t => t.inReset = s.inReset) (fun f t h _ => ?_) (fun e t h _ => ?_) rfl
  · exact (State.follow_inReset f t).trans h
  · exact (congrArg State.inReset (State.expire_frame e t) :).trans h

theorem State.movePin_inReset (c : Instr) (s : State) : (State.movePin c s).inReset = s.inReset := by
  cases c
  case frameBegin =>
    show s.lcsFalls.inReset = s.inReset
    unfold State.lcsFalls
    split <;> rfl
  all_goals rfl

/-- What row `c` answers has every property that all it runs keeps. -/
theorem exec_keeps {c : Instr} {P : State → Prop} (k : Keeps c P) {s t : State} (h : P s)
    (step : exec c s = .next t) : P t := by
  rcases row_cases c with (rfl | rfl) | ⟨m, p, rfl⟩ | rfl | ⟨f, follows⟩ | plain
  · cases step
    exact k.powerOn rfl _ (k.settled h)
  · cases step
    exact k.rst rfl _ (k.settled h)
  · replace step : (if s.inReset then .next (s.release m p) else .next s.settled) = Host.Outcome.next t := step
    split at step <;> cases step
    · rename_i reset; exact k.release m p rfl s h reset
    · exact k.settled h
  · replace step : (if s.inReset then .next s else .next s.readyForTick.tick) = Host.Outcome.next t := step
    split at step <;> cases step
    · exact h
    · rename_i up
      refine k.tick rfl _ (State.readyForTick_keeps k.follow (fun e u hu he => ?_) h) ?_
      · obtain ⟨up', waits⟩ := State.expiry_spec he
        exact k.expire e u (.inl rfl) hu up' waits
      · simpa [State.readyForTick_inReset] using up
  · rw [exec_of_followOn follows] at step
    rcases State.followOn_cases f s with e | ⟨due, e⟩ <;> rw [e] at step <;> cases step
    · exact k.settledTo h f
    · exact k.follow f _ (k.settledTo h f) due
  · rw [exec_of_plainRow plain] at step
    cases step
    split
    · exact k.movePin h
    · rename_i up
      refine k.outsideEffect (k.movePin (k.settled h)) ?_
      simpa [State.movePin_inReset, State.settled_inReset] using up

/-- Every row answers a next state. -/
theorem exec_answers (c : Instr) (s : State) : ∃ t, exec c s = .next t := by
  rcases row_cases c with (rfl | rfl) | ⟨m, p, rfl⟩ | rfl | ⟨f, follows⟩ | plain
  · exact ⟨_, rfl⟩
  · exact ⟨_, rfl⟩
  · exact ⟨_, State.next_ite (s.inReset = true) (s.release m p) s.settled⟩
  · exact ⟨_, State.next_ite (s.inReset = true) s s.readyForTick.tick⟩
  · rw [exec_of_followOn follows]
    exact (State.followOn_cases f s).elim (fun e => ⟨_, e⟩) fun ⟨_, e⟩ => ⟨_, e⟩
  · exact ⟨_, exec_of_plainRow plain s⟩

/-- No row touches the queue (log 12). -/
theorem keeps_pending (c : Instr) (q : List Instr) : Keeps c fun s => s.pending = q where
  follow f s h _ := (State.follow_pending f s).trans h
  expire e s _ h _ _ := (congrArg State.pending (State.expire_frame e s) :).trans h
  tick _ s h _ := (congrArg State.pending (State.tick_frame s) :).trans h
  powerOn _ _ h := h
  rst _ _ h := h
  release _ _ _ _ h _ := h
  host _ _ h _ := h
  pfw _ _ h := h
  frame _ _ _ h := h
  arriveWrite a d _ s h _ := (congrArg State.pending (State.arriveWrite_frame a d s) :).trans h
  arriveRead a _ s h _ := (congrArg State.pending (State.arriveRead_frame a s) :).trans h
  fill _ s h _ := (congrArg State.pending (State.fillReadDone_frame s) :).trans h
  program r _ s h _ := (congrArg State.pending (State.programDone_frame r s) :).trans h
  verify _ s h _ := (congrArg State.pending (State.verifyReadDone_frame s) :).trans h
  hostByte _ s h _ := (congrArg State.pending (State.hostByteDone_frame s) :).trans h
  mapVerify _ s h _ := (congrArg State.pending (State.mapVerifyReadDone_frame s) :).trans h
  mrdy r _ s h _ := (congrArg State.pending (State.mrdyHigh_frame r s) :).trans h
  load _ s h _ := (congrArg State.pending (State.loadReadDone_frame s) :).trans h
  enterHoldup _ s h _ _ := (congrArg State.pending (State.enterHoldup_frame s) :).trans h
  leaveHoldup _ _ h _ _ := h
  command k args _ s h _ := (congrArg State.pending (State.takeEffect_frame k args s) :).trans h

/-- Settles O2: each kind of row ends in `next`, and nothing that a row runs changes the queue. -/
theorem everyCommandAnswersAndKeepsQueue : Obligations.EveryCommandAnswersAndKeepsQueue := by
  intro c s
  obtain ⟨t, step⟩ := exec_answers c s
  exact ⟨t, step, exec_keeps (keeps_pending c s.pending) rfl step⟩

/-- Settles O1: a step is `exec` of the queue's front, by the definition's two cases. -/
theorem stepRunsFrontCommand : Obligations.StepRunsFrontCommand := by
  intro s
  refine ⟨fun c rest queue => ?_, fun empty => ?_⟩
  · simp only [step, queue]
  · simp only [step, empty]

/-- What row `c` of the queue's front answers, or the state itself with an empty queue. -/
theorem step_cases {s t : State} (h : step s = .next t) :
    t = s ∨ ∃ c rest, s.pending = c :: rest ∧ exec c (s.setPending rest) = .next t := by
  cases queue : s.pending with
  | nil =>
    simp only [step, queue] at h
    cases h
    exact .inl rfl
  | cons c rest =>
    simp only [step, queue] at h
    exact .inr ⟨c, rest, rfl, h⟩

/-- A property that does not look at the queue and that every row keeps is kept by every step. -/
theorem step_keeps {P : State → Prop} (queue : ∀ q s, P s → P (s.setPending q)) (keeps : ∀ c, Keeps c P) {s t : State}
    (h : P s) (run : step s = .next t) : P t := by
  rcases step_cases run with rfl | ⟨c, rest, -, run⟩
  · exact h
  · exact exec_keeps (keeps c) (queue rest s h) run

/-! ### The PNV's array (section 6.1) -/

/-- Only a program's grant, its end and a reset touch the PNV among the follow-on rows: the array stays in each. -/
theorem State.follow_cells (f : FollowOn) (s : State) : (s.follow f).pnv.cells = s.pnv.cells := by
  have grantMap : s.grantMapStep.pnv.cells = s.pnv.cells := by
    unfold State.grantMapStep
    split
    · rfl
    · split <;> rfl
  have grantProgram : s.grantProgram.pnv.cells = s.pnv.cells := by
    unfold State.grantProgram
    split <;> rfl
  cases f
  case mapStoreStepGrant => exact grantMap
  case programClaimGrant => exact grantProgram
  case clockStageEnd => exact (congrArg (fun t : State => t.pnv.cells) (State.startReady_frame s) :)
  case saveComplete => exact (congrArg (fun t : State => t.pnv.cells) (State.finishSave_frame s) :)
  case waitingWriteTakenAgain => exact (congrArg (fun t : State => t.pnv.cells) (State.retakeWrite_frame s) :)
  case pressure => exact (congrArg (fun t : State => t.pnv.cells) (State.applyPressure_frame s) :)
  case byteReadGrant => exact (congrArg (fun t : State => t.pnv.cells) (State.grantByteRead_frame s) :)
  case snapshot => exact (congrArg (fun t : State => t.pnv.cells) (State.takeSnapshot_frame s) :)
  case verifyClaimGrant => exact (congrArg (fun t : State => t.pnv.cells) (State.grantVerify_frame s) :)
  case syncComplete | persistJobStart | flushDone => rfl

theorem State.programDone_wf {s : State} (h : Memory.wf s.pnv.cells) (r : ProgramResult) :
    Memory.wf (s.programDone r).pnv.cells := by
  unfold State.programDone State.unseenRise
  split
  · exact State.endProgram_wf h r
  · exact State.endProgram_wf h r
  · split
    · exact State.endCutProgram_wf h r
    · exact h

theorem State.mrdyHigh_wf {s : State} (h : Memory.wf s.pnv.cells) (r : ProgramResult) :
    Memory.wf (s.mrdyHigh r).pnv.cells := by
  unfold State.mrdyHigh
  split
  · exact State.endCutProgram_wf h r
  · exact h

/-- The law of the PNV's array is the array's alone. -/
theorem MemoryLaw.of_pnv {s t : State} (h : MemoryLaw s) (same : t.pnv = s.pnv) : MemoryLaw t := by
  unfold MemoryLaw
  rwa [same]

/-- Every row keeps the PNV's array canonical: the two rows that write it write byte by byte. -/
theorem keeps_memoryLaw (c : Instr) : Keeps c MemoryLaw where
  follow f s h _ := by unfold MemoryLaw; rwa [State.follow_cells]
  expire e s _ h _ _ := h.of_pnv (congrArg State.pnv (State.expire_frame e s) :)
  tick _ s h _ := h.of_pnv (congrArg State.pnv (State.tick_frame s) :)
  powerOn _ s h := by show Memory.wf s.cutOperation.pnv.cells; rwa [State.cutOperation_cells]
  rst _ s h := by show Memory.wf s.cutOperation.pnv.cells; rwa [State.cutOperation_cells]
  release _ _ _ _ h _ := h
  host _ _ h _ := h
  pfw _ _ h := h
  frame _ _ _ h := h
  arriveWrite a d _ s h _ := h.of_pnv (congrArg State.pnv (State.arriveWrite_frame a d s) :)
  arriveRead a _ s h _ := h.of_pnv (congrArg State.pnv (State.arriveRead_frame a s) :)
  fill _ s h _ := h.of_pnv (congrArg State.pnv (State.fillReadDone_frame s) :)
  program r _ _ h _ := State.programDone_wf h r
  verify _ s h _ := h.of_pnv (congrArg State.pnv (State.verifyReadDone_frame s) :)
  hostByte _ s h _ := h.of_pnv (congrArg State.pnv (State.hostByteDone_frame s) :)
  mapVerify _ s h _ := h.of_pnv (congrArg State.pnv (State.mapVerifyReadDone_frame s) :)
  mrdy r _ _ h _ := State.mrdyHigh_wf h r
  load _ s h _ := h.of_pnv (congrArg State.pnv (State.loadReadDone_frame s) :)
  enterHoldup _ s h _ _ := h.of_pnv (congrArg State.pnv (State.enterHoldup_frame s) :)
  leaveHoldup _ _ h _ _ := h
  command k args _ s h _ := h.of_pnv (congrArg State.pnv (State.takeEffect_frame k args s) :)

/-- Settles O57: every row keeps the canonical form, and the queue is no part of it. -/
theorem everyStepKeepsTheMemoryCanonical : Obligations.EveryStepKeepsTheMemoryCanonical :=
  fun _ _ law run => step_keeps (fun _ _ h => h) keeps_memoryLaw law run

end Sys2Proof.Machine
end

section
/-! The settle table's well-formedness (R17 to R20, R26, R30), apart from the rest of the state, and how each operation
on the table keeps it. -/
namespace Sys2Proof.Machine

/-! ### One entry -/

/-- What R17 and R19 say of one entry. -/
structure EntryWf (e : Entry) : Prop where
  paged : e.state ≠ .free → e.page.isSome
  free : e.state = .free → e = Entry.freed
  known : ∀ o : Offset, e.changed[o] = true → e.image[o].isSome
  clean : e.state = .clean → (∀ o : Offset, e.changed[o] = false) ∧ ∀ o : Offset, e.image[o].isSome
  changed : e.state = .settling ∨ e.state = .due ∨ e.state = .pinned → ∃ o : Offset, e.changed[o] = true

theorem freed_image (o : Offset) : Entry.freed.image[o] = none := by
  show (Vector.replicate 64 none)[o.val] = none
  simp

theorem noOffsets_get (o : Offset) : noOffsets[o] = false := by
  show (Vector.replicate 64 false)[o.val] = false
  simp

theorem freed_changed (o : Offset) : Entry.freed.changed[o] = false := noOffsets_get o

theorem entryWf_freed : EntryWf Entry.freed where
  paged h := absurd rfl h
  free _ := rfl
  known o h := by rw [freed_changed] at h; cases h
  clean h := by cases h
  changed h := by rcases h with h | h | h <;> cases h

/-- A dirty entry with a page, with its changes known, and with some unless it is COMMITTING. -/
theorem EntryWf.of_dirty {e : Entry} (state : isDirty e = true) (page : e.page.isSome)
    (known : ∀ o : Offset, e.changed[o] = true → e.image[o].isSome)
    (changed : e.state ≠ .committing → ∃ o : Offset, e.changed[o] = true) : EntryWf e where
  paged _ := page
  free h := by simp [isDirty, h] at state
  known := known
  clean h := by simp [isDirty, h] at state
  changed h := changed (by rcases h with h | h | h <;> simp [h])

theorem isDirty_iff (e : Entry) :
    isDirty e = true ↔ e.state = .settling ∨ e.state = .due ∨ e.state = .committing ∨ e.state = .pinned := by
  unfold isDirty
  cases e.state <;> simp

/-- An entry in the same dirty state, or promoted, with the same page, and no byte or change lost. -/
theorem isDirty_congr {e e' : Entry} (h : e'.state = e.state) : isDirty e' = isDirty e := by
  unfold isDirty; rw [h]

section
variable (o k : Offset) (b : Byte) (e : Entry)

theorem putByte_image : (putByte o b e).image[k] = if o = k then some b else e.image[k] := by
  show (e.image.set o.val (some b) o.isLt)[k.val] = _
  rw [Vector.getElem_set]
  simp [Fin.ext_iff]

theorem putByte_changed : (putByte o b e).changed[k] = if o = k then true else e.changed[k] := by
  show (e.changed.set o.val true o.isLt)[k.val] = _
  rw [Vector.getElem_set]
  simp [Fin.ext_iff]

end

theorem putByte_image_isSome {o k : Offset} {b : Byte} {e : Entry} (h : e.image[k].isSome) :
    (putByte o b e).image[k].isSome := by
  rw [putByte_image]
  split
  · rfl
  · exact h

theorem putByte_known {o : Offset} {b : Byte} {e : Entry} (h : ∀ k : Offset, e.changed[k] = true → e.image[k].isSome)
    (k : Offset) (c : (putByte o b e).changed[k] = true) : (putByte o b e).image[k].isSome := by
  rw [putByte_image]
  rw [putByte_changed] at c
  split
  · rfl
  · rename_i ne
    rw [if_neg ne] at c
    exact h k c

theorem putByte_changed_self (o : Offset) (b : Byte) (e : Entry) : (putByte o b e).changed[o] = true := by
  rw [putByte_changed, if_pos rfl]

/-- A byte put into a dirty entry leaves it well-formed, whatever else of deadlines and flags changes with it. -/
theorem EntryWf.put {e e' : Entry} {o : Offset} {b : Byte} (h : EntryWf e) (state : isDirty e' = true)
    (live : e.state ≠ .free) (page : e'.page = e.page) (image : e'.image = (putByte o b e).image)
    (changed : e'.changed = (putByte o b e).changed) : EntryWf e' := by
  refine .of_dirty state (by rw [page]; exact h.paged live) (fun k c => ?_) fun _ => ⟨o, ?_⟩
  · rw [image]; rw [changed] at c; exact putByte_known h.known k c
  · rw [changed]; exact putByte_changed_self o b e

theorem EntryWf.due {e : Entry} (h : EntryWf e) (live : e.state ≠ .free)
    (changed : ∃ o : Offset, e.changed[o] = true) : EntryWf { e with state := .due } :=
  .of_dirty rfl (h.paged live) h.known fun _ => changed

/-! ### The lists that name entries -/

/-- A list that holds exactly the entries in a state, each once. -/
def Lists (t : SettleTable) (l : List Index) (x : EntryState) : Prop :=
  l.Nodup ∧ ∀ i : Index, i ∈ l ↔ t.entries[i].state = x

section
variable {t t' : SettleTable} {l : List Index} {x : EntryState} {i : Index}
  (others : ∀ j : Index, j ≠ i → t'.entries[j] = t.entries[j])
include others

theorem Lists.keep (h : Lists t l x) (same : t'.entries[i].state = x ↔ t.entries[i].state = x) : Lists t' l x := by
  refine ⟨h.1, fun j => ?_⟩
  by_cases e : j = i
  · subst e; rw [h.2, same]
  · rw [h.2, others j e]

theorem Lists.push (h : Lists t l x) (before : t.entries[i].state ≠ x) (after : t'.entries[i].state = x) :
    Lists t' (l ++ [i]) x := by
  have absent : i ∉ l := fun m => before ((h.2 i).mp m)
  refine ⟨List.nodup_append.mpr ⟨h.1, List.pairwise_singleton _ i, ?_⟩, fun j => ?_⟩
  · intro a ha b hb e
    rw [List.mem_singleton.mp hb] at e
    exact absent (e ▸ ha)
  · rw [List.mem_append, List.mem_singleton, h.2]
    by_cases e : j = i
    · subst e; simpa using after
    · rw [others j e]; simp [e]

theorem Lists.pop (h : Lists t (i :: l) x) (after : t'.entries[i].state ≠ x) : Lists t' l x := by
  obtain ⟨nodup, mem⟩ := h
  obtain ⟨absent, nodup⟩ := List.nodup_cons.mp nodup
  refine ⟨nodup, fun j => ?_⟩
  by_cases e : j = i
  · subst e; simpa [absent] using after
  · rw [others j e, ← mem, List.mem_cons]; simp [e]

theorem Lists.drop (h : Lists t l x) (after : t'.entries[i].state ≠ x) : Lists t' (l.filter (· != i)) x := by
  refine ⟨h.1.filter _, fun j => ?_⟩
  rw [List.mem_filter, h.2]
  by_cases e : j = i
  · subst e; simpa using after
  · rw [others j e]; simp [e]

end

/-! ### The dirty count (R20) -/

theorem dirtyCount_eq_countP (t : SettleTable) :
    dirtyCount t = (List.finRange 32).countP fun i : Index => isDirty t.entries[i] := by
  have list : t.entries.toList = (List.finRange 32).map fun i => t.entries[i] := by
    apply List.ext_getElem
    · simp
    · intro n h1 h2; simp
  unfold dirtyCount
  rw [list, List.countP_map]
  rfl

theorem dirtyCount_mono {t t' : SettleTable}
    (h : ∀ i : Index, isDirty t'.entries[i] = true → isDirty t.entries[i] = true) : dirtyCount t' ≤ dirtyCount t := by
  rw [dirtyCount_eq_countP, dirtyCount_eq_countP]
  exact List.countP_mono_left fun i _ => h i

/-- In a list that names each index once, a predicate that is wider at one index counts at most one more. -/
theorem countP_le_succ {p q : Index → Bool} (i : Index) (h : ∀ j, j ≠ i → p j = true → q j = true) {l : List Index}
    (nodup : l.Nodup) : l.countP p ≤ l.countP q + 1 := by
  induction l with
  | nil => exact Nat.zero_le _
  | cons x l ih =>
    obtain ⟨absent, nodup⟩ := List.nodup_cons.mp nodup
    rw [List.countP_cons, List.countP_cons]
    by_cases e : x = i
    · have rest : l.countP p ≤ l.countP q :=
        List.countP_mono_left fun j m => h j fun same => absent (by rw [e, ← same]; exact m)
      split <;> split <;> omega
    · have head := h x e
      have rest := ih nodup
      split
      · rename_i holds
        rw [if_pos (head holds)]
        omega
      · split <;> omega

theorem dirtyCount_le_succ {t t' : SettleTable} (i : Index)
    (h : ∀ j : Index, j ≠ i → isDirty t'.entries[j] = true → isDirty t.entries[j] = true) :
    dirtyCount t' ≤ dirtyCount t + 1 := by
  rw [dirtyCount_eq_countP, dirtyCount_eq_countP]
  exact countP_le_succ i h (List.nodup_finRange 32)

/-- Below 32 dirty entries one is FREE or CLEAN. -/
theorem exists_not_dirty {t : SettleTable} (h : dirtyCount t < 32) : ∃ i : Index, isDirty t.entries[i] = false := by
  refine Classical.byContradiction fun all => ?_
  have dirty : ∀ i : Index, isDirty t.entries[i] = true := fun i =>
    (Bool.eq_false_or_eq_true _).resolve_right fun clean => all ⟨i, clean⟩
  rw [dirtyCount_eq_countP, List.countP_eq_length.mpr fun i _ => dirty i, List.length_finRange] at h
  omega

/-- An empty table has no dirty entry. -/
theorem dirtyCount_of_free {t : SettleTable} (h : ∀ i : Index, t.entries[i].state = .free) : dirtyCount t = 0 := by
  rw [dirtyCount_eq_countP]
  exact List.countP_eq_zero.mpr fun i _ => by rw [isDirty, h i]; exact nofun

/-! ### The table -/

/-- The laws of the settle table that concern the table alone. -/
structure TableWf (t : SettleTable) : Prop where
  entry : ∀ i : Index, EntryWf t.entries[i]
  distinct : ∀ i j : Index, t.entries[i].state ≠ .free → t.entries[j].state ≠ .free →
    t.entries[i].page = t.entries[j].page → i = j
  queue : Lists t t.dueQueue .due
  cleans : Lists t t.cleanList .clean

/-- A change of one entry: it stays well-formed, keeps its page or takes one that no other entry has, and the lists
follow its state. -/
theorem TableWf.change {t t' : SettleTable} (h : TableWf t) {i : Index}
    (others : ∀ j : Index, j ≠ i → t'.entries[j] = t.entries[j]) (entry : EntryWf t'.entries[i])
    (page : t.entries[i].state ≠ .free ∧ t'.entries[i].page = t.entries[i].page ∨
      ∀ j : Index, j ≠ i → t.entries[j].state ≠ .free → t.entries[j].page ≠ t'.entries[i].page)
    (queue : Lists t' t'.dueQueue .due) (cleans : Lists t' t'.cleanList .clean) : TableWf t' := by
  have alone : ∀ j : Index, j ≠ i → t'.entries[j].state ≠ .free → t'.entries[j].page ≠ t'.entries[i].page := by
    intro j ne live same
    rw [others j ne] at live same
    rcases page with ⟨was, kept⟩ | fresh
    · exact ne (h.distinct j i live was (same.trans kept))
    · exact fresh j ne live same
  refine ⟨fun j => ?_, fun j k hj hk same => ?_, queue, cleans⟩
  · by_cases e : j = i
    · subst e; exact entry
    · rw [others j e]; exact h.entry j
  · by_cases ej : j = i
    · by_cases ek : k = i
      · rw [ej, ek]
      · subst ej; exact absurd same.symm (alone k ek hk)
    · by_cases ek : k = i
      · subst ek; exact absurd same (alone j ej hj)
      · rw [others j ej] at hj same
        rw [others k ek] at hk same
        exact h.distinct j k hj hk same

/-- The links between table and commit engine (R82, R83, R88, R103). -/
structure EngineWf (t : SettleTable) (ce : CommitEngine) : Prop where
  committing : ∀ i : Index, t.entries[i].state = .committing ↔ ∃ r, ce.record = some r ∧ r.entry = i
  change : ∀ r, ce.record = some r → (∃ o : Offset, r.changeSet[o] = true) ∧
    ∀ o : Offset, r.changeSet[o] = true → t.entries[r.entry].image[o].isSome
  filled : ∀ r, ce.record = some r → ce.stage ≠ .filling → ∀ o : Offset, t.entries[r.entry].image[o].isSome
  stages : ce.record = none ↔ ce.stage = .idle ∨ ce.stage = .starting

theorem EngineWf.entry_committing {t : SettleTable} {ce : CommitEngine} (h : EngineWf t ce) {r : CommitRecord}
    (record : ce.record = some r) : t.entries[r.entry].state = .committing :=
  (h.committing r.entry).mpr ⟨r, record, rfl⟩

/-- The links look at COMMITTING and at the bytes known in that entry alone. -/
theorem EngineWf.of_entries {t t' : SettleTable} {ce : CommitEngine} (h : EngineWf t ce)
    (state : ∀ j : Index, t'.entries[j].state = .committing ↔ t.entries[j].state = .committing)
    (image : ∀ (j : Index) (o : Offset), t.entries[j].state = .committing → t.entries[j].image[o].isSome →
      t'.entries[j].image[o].isSome) : EngineWf t' ce where
  committing j := (state j).trans (h.committing j)
  change r hr := ⟨(h.change r hr).1, fun o c => image _ o (h.entry_committing hr) ((h.change r hr).2 o c)⟩
  filled r hr g o := image _ o (h.entry_committing hr) (h.filled r hr g o)
  stages := h.stages

/-- Without a record no entry is COMMITTING. -/
theorem EngineWf.of_none {t : SettleTable} {ce : CommitEngine} (record : ce.record = none)
    (stage : ce.stage = .idle ∨ ce.stage = .starting)
    (none : ∀ j : Index, t.entries[j].state ≠ .committing) : EngineWf t ce where
  committing j := ⟨fun h => absurd h (none j), fun ⟨r, h, _⟩ => by rw [record] at h; cases h⟩
  change r h := by rw [record] at h; cases h
  filled r h := by rw [record] at h; cases h
  stages := ⟨fun _ => stage, fun _ => record⟩

theorem EngineWf.not_committing {t : SettleTable} {ce : CommitEngine} (h : EngineWf t ce) (record : ce.record = none)
    (j : Index) : t.entries[j].state ≠ .committing := by
  intro c
  obtain ⟨r, hr, -⟩ := (h.committing j).mp c
  rw [record] at hr
  cases hr

/-- At the end of a commit its entry leaves COMMITTING, and no entry is COMMITTING any more. -/
theorem EngineWf.ended {t t' : SettleTable} {ce : CommitEngine} (h : EngineWf t ce) {r : CommitRecord}
    (record : ce.record = some r) (others : ∀ j : Index, j ≠ r.entry → t'.entries[j] = t.entries[j])
    (left : t'.entries[r.entry].state ≠ .committing) (j : Index) : t'.entries[j].state ≠ .committing := by
  by_cases e : j = r.entry
  · rw [e]; exact left
  · rw [others j e]
    intro c
    obtain ⟨r', hr', rfl⟩ := (h.committing j).mp c
    rw [record] at hr'
    cases hr'
    exact e rfl

/-- The laws of the settle table that concern the table, the budget and the commit engine. -/
structure TableHolds (budget : Nat) (ce : CommitEngine) (t : SettleTable) : Prop where
  wf : TableWf t
  dirty : dirtyCount t ≤ budget
  engine : EngineWf t ce

section
variable {budget : Nat} {ce : CommitEngine} {t t' : SettleTable}

/-- A change of one entry that the commit engine does not look at. -/
theorem TableHolds.change (h : TableHolds budget ce t) {i : Index}
    (others : ∀ j : Index, j ≠ i → t'.entries[j] = t.entries[j]) (entry : EntryWf t'.entries[i])
    (page : t.entries[i].state ≠ .free ∧ t'.entries[i].page = t.entries[i].page ∨
      ∀ j : Index, j ≠ i → t.entries[j].state ≠ .free → t.entries[j].page ≠ t'.entries[i].page)
    (queue : Lists t' t'.dueQueue .due) (cleans : Lists t' t'.cleanList .clean)
    (dirty : isDirty t'.entries[i] = true → isDirty t.entries[i] = true ∨ dirtyCount t < budget)
    (committing : t'.entries[i].state = .committing ↔ t.entries[i].state = .committing)
    (image : t.entries[i].state = .committing → ∀ o : Offset, t.entries[i].image[o].isSome →
      t'.entries[i].image[o].isSome) : TableHolds budget ce t' where
  wf := h.wf.change others entry page queue cleans
  dirty := by
    by_cases kept : isDirty t'.entries[i] = true → isDirty t.entries[i] = true
    · refine Nat.le_trans (dirtyCount_mono fun j d => ?_) h.dirty
      by_cases e : j = i
      · subst e; exact kept d
      · rwa [others j e] at d
    · obtain ⟨after, before⟩ := Classical.not_imp.mp kept
      exact Nat.le_trans (dirtyCount_le_succ i fun j e d => by rwa [others j e] at d)
        ((dirty after).resolve_left before)
  engine := by
    refine h.engine.of_entries (fun j => ?_) fun j o c s => ?_
    · by_cases e : j = i
      · subst e; exact committing
      · rw [others j e]
    · by_cases e : j = i
      · subst e; exact image c o s
      · rwa [others j e]

/-- A change of deadlines and flags: state, page, image and changed set of the entry stay, and so do the lists. -/
theorem TableHolds.annotate (h : TableHolds budget ce t) (i : Index) (f : Entry → Entry)
    (same : ∀ e, (f e).state = e.state ∧ (f e).page = e.page ∧ (f e).image = e.image ∧ (f e).changed = e.changed)
    (freed : t.entries[i].state = .free → f Entry.freed = Entry.freed) : TableHolds budget ce (updateEntry t i f) := by
  have others : ∀ j : Index, j ≠ i → (updateEntry t i f).entries[j] = t.entries[j] :=
    fun j => updateEntry_entries_of_ne t f
  have self := updateEntry_entries_self t i f
  obtain ⟨state, page, image, changed⟩ := same t.entries[i]
  have e := h.wf.entry i
  have keep : ∀ x, (updateEntry t i f).entries[i].state = x ↔ t.entries[i].state = x := fun x => by rw [self, state]
  by_cases free : t.entries[i].state = .free
  · have unchanged : f t.entries[i] = t.entries[i] := by rw [e.free free]; exact freed free
    have eq : updateEntry t i f = t := by
      unfold updateEntry
      rw [unchanged]
      simp
    rw [eq]; exact h
  · refine h.change others ?_ (.inl ⟨free, by rw [self]; exact page⟩) (h.wf.queue.keep others (keep _))
      (h.wf.cleans.keep others (keep _)) ?_ (keep _) fun _ o s => by rw [self, image]; exact s
    · rw [self]
      refine ⟨fun _ => by rw [page]; exact e.paged free, fun z => absurd (state ▸ z) free, ?_, ?_, ?_⟩
      · rw [image, changed]; exact e.known
      · rw [image, changed, state]; exact e.clean
      · rw [changed, state]; exact e.changed
    · rw [self, isDirty_congr state]; exact .inl

/-- A promotion of an entry that carries changes (R27). -/
theorem TableHolds.promote (h : TableHolds budget ce t) {i : Index}
    (state : t.entries[i].state = .settling ∨ t.entries[i].state = .pinned) :
    TableHolds budget ce (promote i t) := by
  have self := promote_entries_self t i
  have due : (Machine.promote i t).entries[i].state = .due := by rw [self]
  have live : t.entries[i].state ≠ .free := by rcases state with s | s <;> rw [s] <;> decide
  refine h.change (fun j => promote_entries_of_ne t) ?_ (.inl ⟨live, by rw [self]⟩)
    (h.wf.queue.push (fun j => promote_entries_of_ne t) (by rcases state with s | s <;> rw [s] <;> decide) due)
    (h.wf.cleans.keep (fun j => promote_entries_of_ne t) (by rw [due]; rcases state with s | s <;> rw [s] <;> decide))
    (fun _ => .inl ?_) (by rw [due]; rcases state with s | s <;> rw [s] <;> decide) fun c => ?_
  · rw [self]
    exact (h.wf.entry i).due live ((h.wf.entry i).changed (state.imp id .inr))
  · exact (isDirty_iff _).mpr (state.imp id fun s => .inr (.inr s))
  · rcases state with s | s <;> rw [s] at c <;> cases c

/-- Several promotions (R28). -/
theorem TableHolds.promoteAll {is : List Index} (h : TableHolds budget ce t) (nodup : is.Nodup)
    (state : ∀ i ∈ is, t.entries[i].state = .settling ∨ t.entries[i].state = .pinned) :
    TableHolds budget ce (promoteAll is t) := by
  induction is generalizing t with
  | nil => exact h
  | cons i is ih =>
    obtain ⟨absent, nodup⟩ := List.nodup_cons.mp nodup
    refine ih (h.promote (state i (by simp))) nodup fun j m => ?_
    rw [promote_entries_of_ne t (by rintro rfl; exact absent m)]
    exact state j (by simp [m])

/-- A write that has made its entry SETTLING promotes it under THROUGH (R38). -/
theorem TableHolds.promoteIfThrough (h : TableHolds budget ce t) (p : PolicyRecord) (i : Index) :
    TableHolds budget ce (promoteIfThrough p i t) := by
  rcases promoteIfThrough_cases p i t with ⟨-, state, e⟩ | ⟨-, e⟩ <;> rw [e]
  · exact h.promote (.inl state)
  · exact h

/-- The same change of deadlines or flags in every entry. -/
theorem TableHolds.mapEntries (h : TableHolds budget ce t) {f : Entry → Entry}
    (same : ∀ e, (f e).state = e.state ∧ (f e).page = e.page ∧ (f e).image = e.image ∧ (f e).changed = e.changed)
    (freed : f Entry.freed = Entry.freed) : TableHolds budget ce (mapEntries f t) := by
  have get := mapEntries_entries f t
  have state : ∀ i : Index, (Machine.mapEntries f t).entries[i].state = t.entries[i].state :=
    fun i => by rw [get, (same _).1]
  have lists : ∀ {l x}, Lists t l x → Lists (Machine.mapEntries f t) l x :=
    fun h => ⟨h.1, fun i => by rw [state, h.2]⟩
  refine ⟨⟨fun i => ?_, fun i j hi hj e => ?_, ?_, ?_⟩,
    Nat.le_trans (dirtyCount_mono fun i d => by rwa [isDirty_congr (state i)] at d) h.dirty,
    h.engine.of_entries (fun i => by rw [state]) fun i o _ k => by rw [get, (same _).2.2.1]; exact k⟩
  · obtain ⟨sameState, page, image, changed⟩ := same t.entries[i]
    have e := h.wf.entry i
    rw [get]
    refine ⟨?_, fun free => ?_, ?_, ?_, ?_⟩
    · rw [sameState, page]; exact e.paged
    · rw [sameState] at free; rw [e.free free]; exact freed
    · rw [image, changed]; exact e.known
    · rw [image, changed, sameState]; exact e.clean
    · rw [changed, sameState]; exact e.changed
  · rw [state] at hi hj
    rw [get, get, (same _).2.1, (same _).2.1] at e
    exact h.wf.distinct i j hi hj e
  · rw [mapEntries_dueQueue]; exact lists h.wf.queue
  · rw [mapEntries_cleanList]; exact lists h.wf.cleans

/-- A table hit on a CLEAN entry reorders the clean list (R30, R45). -/
theorem TableHolds.touchClean (h : TableHolds budget ce t) (i : Index) : TableHolds budget ce (touchClean i t) := by
  unfold Machine.touchClean
  split
  · rename_i clean
    refine ⟨⟨h.wf.entry, h.wf.distinct, h.wf.queue, ?_⟩, h.dirty, h.engine.of_entries (fun _ => .rfl) fun _ _ _ k => k⟩
    obtain ⟨nodup, mem⟩ := h.wf.cleans
    refine ⟨List.nodup_append.mpr ⟨nodup.filter _, List.pairwise_singleton _ i, ?_⟩, fun j => ?_⟩
    · intro a ha b hb e
      rw [List.mem_singleton.mp hb] at e
      simp [e] at ha
    · rw [List.mem_append, List.mem_filter, List.mem_singleton, mem]
      by_cases e : j = i
      · subst e; simpa using clean
      · simp [e]
  · exact h

/-- An expiry (R24). -/
theorem TableHolds.expiryActs (h : TableHolds budget ce t) (i : Index) : TableHolds budget ce (expiryActs i t) := by
  unfold Machine.expiryActs
  split
  · rename_i state; exact h.promote (.inl state)
  · rename_i state
    exact h.annotate i _ (fun _ => ⟨rfl, rfl, rfl, rfl⟩) fun free => by rw [free] at state; cases state
  · exact h

/-! ### Host writes (R31 to R38) -/

/-- A byte merged into a dirty entry; `f` says what else of the entry changes. -/
theorem TableHolds.merge (h : TableHolds budget ce t) {i : Index} {o : Offset} {b : Byte} (f : Entry → Entry)
    (dirty : isDirty t.entries[i] = true)
    (same : ∀ e, (f e).state = e.state ∧ (f e).page = e.page ∧ (f e).image = (putByte o b e).image ∧
      (f e).changed = (putByte o b e).changed) : TableHolds budget ce (updateEntry t i f) := by
  have others : ∀ j : Index, j ≠ i → (updateEntry t i f).entries[j] = t.entries[j] :=
    fun j => updateEntry_entries_of_ne t f
  have self := updateEntry_entries_self t i f
  obtain ⟨state, page, image, changed⟩ := same t.entries[i]
  have keep : ∀ x, (updateEntry t i f).entries[i].state = x ↔ t.entries[i].state = x := fun x => by rw [self, state]
  have live : t.entries[i].state ≠ .free := by intro z; rw [isDirty, z] at dirty; cases dirty
  refine h.change others ?_ (.inl ⟨live, by rw [self]; exact page⟩) (h.wf.queue.keep others (keep _))
    (h.wf.cleans.keep others (keep _)) (fun _ => .inl dirty) (keep _) fun _ k known => ?_
  · rw [self]
    exact (h.wf.entry i).put (by rw [isDirty_congr state]; exact dirty) live page image changed
  · rw [self, image]; exact putByte_image_isSome known

theorem mergeCommitting_same (o : Offset) (b : Byte) (p : PolicyRecord) (now : Stamp) (e : Entry) :
    (mergeCommitting o b p now e).state = e.state ∧ (mergeCommitting o b p now e).page = e.page ∧
      (mergeCommitting o b p now e).image = (putByte o b e).image ∧
      (mergeCommitting o b p now e).changed = (putByte o b e).changed := by
  simp only [mergeCommitting]
  split <;> split <;> exact ⟨rfl, rfl, rfl, rfl⟩

theorem admittedEntry_wf (page : Nat) (o : Offset) (b : Byte) (p : PolicyRecord) (now : Stamp) :
    EntryWf (admittedEntry page o b p now) := by
  refine .of_dirty rfl rfl ?_ fun _ => ⟨o, putByte_changed_self o b _⟩
  exact putByte_known (e := { Entry.freed with state := .settling, page := some page }) (o := o) (b := b) fun k c => by
    have none := freed_changed k
    rw [show Entry.freed.changed[k] = true from c] at none
    cases none

theorem redirtiedEntry_wf {e : Entry} (h : EntryWf e) (clean : e.state = .clean) (o : Offset) (b : Byte)
    (p : PolicyRecord) (now : Stamp) : EntryWf (redirtiedEntry o b p now e) := by
  refine .of_dirty rfl (h.paged (by rw [clean]; decide)) ?_ fun _ => ⟨o, putByte_changed_self o b _⟩
  exact putByte_known (e := { e with state := .settling, changed := noOffsets }) (o := o) (b := b) fun k _ =>
    (h.clean clean).2 k

/-- The admission of a page that no entry holds (R31, R33). -/
theorem TableHolds.admission (h : TableHolds budget ce t) {i : Index} {t1 : SettleTable} (slot : takeSlot t = some (i, t1))
    {page : Nat} (absent : entryFor t page = none) (room : dirtyCount t < budget) (o : Offset) (b : Byte)
    (p : PolicyRecord) (now : Stamp) :
    TableHolds budget ce (updateEntry t1 i fun _ => admittedEntry page o b p now) := by
  have entries : t1.entries = t.entries ∧ t1.dueQueue = t.dueQueue := by
    rcases takeSlot_cases slot with ⟨-, -, rfl⟩ | ⟨-, -, entries, queue⟩
    · exact ⟨rfl, rfl⟩
    · exact ⟨entries, queue⟩
  have others : ∀ j : Index, j ≠ i →
      (updateEntry t1 i fun _ => admittedEntry page o b p now).entries[j] = t.entries[j] := by
    intro j ne; rw [updateEntry_entries_of_ne t1 _ ne, entries.1]
  have self := updateEntry_entries_self t1 i fun _ => admittedEntry page o b p now
  have state : (updateEntry t1 i fun _ => admittedEntry page o b p now).entries[i].state = .settling := by
    rw [self]; rfl
  have was : t.entries[i].state = .free ∨ t.entries[i].state = .clean := by
    rcases takeSlot_cases slot with ⟨free, -⟩ | ⟨-, cleans, -⟩
    · exact .inl free
    · exact .inr ((h.wf.cleans.2 i).mp (by rw [cleans]; simp))
  refine h.change others ?_ (.inr fun j _ live same => ?_) ?_ ?_ (fun _ => .inr room) ?_ fun c => ?_
  · rw [self]; exact admittedEntry_wf page o b p now
  · rw [self] at same
    exact entryFor_eq_none_iff.mp absent j ⟨live, same⟩
  · show Lists _ t1.dueQueue .due
    rw [entries.2]
    exact h.wf.queue.keep others (by rw [state]; rcases was with w | w <;> rw [w] <;> decide)
  · show Lists _ t1.cleanList .clean
    rcases takeSlot_cases slot with ⟨free, -, rfl⟩ | ⟨-, cleans, -⟩
    · exact h.wf.cleans.keep others (by rw [state, free]; decide)
    · have list := h.wf.cleans
      rw [cleans] at list
      exact list.pop others (by rw [state]; decide)
  · rw [state]; rcases was with w | w <;> rw [w] <;> decide
  · rcases was with w | w <;> rw [w] at c <;> cases c

/-- A write into a CLEAN entry of its page (R34). -/
theorem TableHolds.redirty (h : TableHolds budget ce t) {i : Index} (clean : t.entries[i].state = .clean)
    (room : dirtyCount t < budget) (o : Offset) (b : Byte) (p : PolicyRecord) (now : Stamp) :
    TableHolds budget ce
      (updateEntry { t with cleanList := t.cleanList.filter (· != i) } i (redirtiedEntry o b p now)) := by
  have others : ∀ j : Index, j ≠ i →
      (updateEntry { t with cleanList := t.cleanList.filter (· != i) } i (redirtiedEntry o b p now)).entries[j] =
        t.entries[j] :=
    fun j => updateEntry_entries_of_ne { t with cleanList := t.cleanList.filter (· != i) } _
  have self := updateEntry_entries_self { t with cleanList := t.cleanList.filter (· != i) } i (redirtiedEntry o b p now)
  have state : (updateEntry { t with cleanList := t.cleanList.filter (· != i) } i
      (redirtiedEntry o b p now)).entries[i].state = .settling := by rw [self]; rfl
  refine h.change others ?_ (.inl ⟨by rw [clean]; decide, by rw [self]; rfl⟩)
    (h.wf.queue.keep others (by rw [state, clean]; decide))
    (h.wf.cleans.drop others (by rw [state]; decide))
    (fun _ => .inr room) (by rw [state, clean]; decide) fun c => ?_
  · rw [self]; exact redirtiedEntry_wf (h.wf.entry i) clean o b p now
  · rw [clean] at c; cases c

/-- A host write that the table takes keeps the laws of the table (R32 to R38). -/
theorem TableHolds.write (h : TableHolds budget ce t) {page : Nat} {now : Stamp} {o : Offset} {b : Byte}
    {p : PolicyRecord} {n : Counter} (takes : tableWrite budget now page o b p t = some (t', n)) :
    TableHolds budget ce t' := by
  rcases tableWrite_cases takes with ⟨absent, room, -, i, t1, slot, rfl⟩ | ⟨i, -, ⟨clean, room, -, rfl⟩ | ⟨-, merges⟩⟩
  · exact (h.admission slot absent room o b p now).promoteIfThrough p i
  · exact (h.redirty clean room o b p now).promoteIfThrough p i
  · rcases merges with ⟨state, rfl⟩ | ⟨state, rfl⟩ | ⟨state, rfl⟩ | ⟨state, rfl⟩
    · exact (h.merge (fun e => restartQuiet p (putByte o b e)) (by rw [isDirty, state]) fun _ =>
        ⟨rfl, rfl, rfl, rfl⟩).promoteIfThrough p i
    · exact h.merge (o := o) (b := b) _ (by rw [isDirty, state]) fun _ => ⟨rfl, rfl, rfl, rfl⟩
    · exact h.merge _ (by rw [isDirty, state]) (mergeCommitting_same o b p now)
    · exact h.merge (o := o) (b := b) _ (by rw [isDirty, state]) fun _ => ⟨rfl, rfl, rfl, rfl⟩

end

end Sys2Proof.Machine
end

section
/-! How the commit engine's operations keep the settle table's laws (R82 to R104): the snapshot, the fill, the ends of a
commit, the start claim, and entry into FAULT. -/
namespace Sys2Proof.Machine

section
variable {budget : Nat} {ce : CommitEngine} {t : SettleTable}

/-- With the record empty the engine is IDLE or STARTING, and either will do. -/
theorem TableHolds.idle (h : TableHolds budget ce t) (record : ce.record = none) {g : Stage}
    (stage : g = .idle ∨ g = .starting) : TableHolds budget { stage := g, record := none } t :=
  ⟨h.wf, h.dirty, .of_none rfl stage (h.engine.not_committing record)⟩

/-- The record goes on to another stage of the same commit, once the entry is fully known. -/
theorem TableHolds.goOn (h : TableHolds budget ce t) {r r' : CommitRecord} (record : ce.record = some r)
    (entry : r'.entry = r.entry) (changeSet : r'.changeSet = r.changeSet)
    (full : ∀ o : Offset, t.entries[r.entry].image[o].isSome) {g : Stage} (stage : g ≠ .idle ∧ g ≠ .starting) :
    TableHolds budget { stage := g, record := some r' } t where
  wf := h.wf
  dirty := h.dirty
  engine := {
    committing := fun i => by
      rw [h.engine.committing, record]
      simp [entry]
    change := fun q e => by
      cases e
      simp only [entry, changeSet]
      exact h.engine.change r record
    filled := fun q e _ => by cases e; simp only [entry]; exact full
    stages := by simp [stage] }

/-- The snapshot of the queue's head (R29, R86). -/
theorem TableHolds.snapshot (h : TableHolds budget ce t) (record : ce.record = none) {i : Index} {rest : List Index}
    (queue : t.dueQueue = i :: rest) {r : CommitRecord} (entry : r.entry = i)
    (changeSet : r.changeSet = t.entries[i].changed) :
    TableHolds budget { stage := .filling, record := some r }
      { updateEntry t i snapshotEntry with dueQueue := rest } := by
  obtain ⟨entries, other⟩ : (∀ j : Index, j ≠ i → (updateEntry t i snapshotEntry).entries[j] = t.entries[j]) ∧
      (updateEntry t i snapshotEntry).entries[i] = snapshotEntry t.entries[i] :=
    ⟨fun j => updateEntry_entries_of_ne t _, updateEntry_entries_self t i _⟩
  generalize updated : ({ updateEntry t i snapshotEntry with dueQueue := rest } : SettleTable) = t'
  have others : ∀ j : Index, j ≠ i → t'.entries[j] = t.entries[j] := by rw [← updated]; exact entries
  have self : t'.entries[i] = snapshotEntry t.entries[i] := by rw [← updated]; exact other
  have committing : t'.entries[i].state = .committing := by rw [self]; rfl
  have due : t.entries[i].state = .due := (h.wf.queue.2 i).mp (by rw [queue]; simp)
  have live : t.entries[i].state ≠ .free := by rw [due]; decide
  have e := h.wf.entry i
  refine ⟨h.wf.change others ?_ (.inl ⟨live, by rw [self]; rfl⟩) ?_ ?_, ?_, ?_⟩
  · rw [self]
    refine .of_dirty rfl (e.paged live) (fun o c => ?_) fun n => absurd rfl n
    rw [show (snapshotEntry t.entries[i]).changed = noOffsets from rfl, noOffsets_get] at c
    cases c
  · have list := h.wf.queue
    rw [queue] at list
    rw [← updated] at others committing ⊢
    exact list.pop others (by rw [committing]; decide)
  · rw [← updated] at others committing ⊢
    exact h.wf.cleans.keep others (by rw [committing, due]; decide)
  · refine Nat.le_trans (dirtyCount_mono fun j d => ?_) h.dirty
    by_cases eq : j = i
    · subst eq; rw [isDirty, due]
    · rwa [others j eq] at d
  · refine ⟨fun j => ?_, fun q eq => ?_, fun q _ n => absurd rfl n, by simp⟩
    · by_cases eq : j = i
      · subst eq; simpa [entry] using committing
      · rw [others j eq]
        refine ⟨fun c => absurd c (h.engine.not_committing record j), fun ⟨q, eq', at'⟩ => ?_⟩
        cases eq'
        exact absurd (at'.symm.trans entry) eq
    · cases eq
      subst entry
      rw [changeSet, self]
      exact ⟨e.changed (.inr (.inl due)), e.known⟩

/-- The fill completes the entry (R88). -/
theorem filledEntry_image (m : Page) (e : Entry) (o : Offset) : (filledEntry m e).image[o].isSome := by
  simp only [filledEntry]
  rw [completeWith_get]; rfl

theorem filledEntry_changed (m : Page) (e : Entry) : (filledEntry m e).changed = e.changed := by simp only [filledEntry]

@[simp] theorem filledEntry_state (m : Page) (e : Entry) : (filledEntry m e).state = e.state := by simp only [filledEntry]
@[simp] theorem filledEntry_page (m : Page) (e : Entry) : (filledEntry m e).page = e.page := by simp only [filledEntry]

/-- The COMMITTING entry completed: its bytes are all known, and nothing else changes. -/
theorem TableHolds.complete (h : TableHolds budget ce t) {r : CommitRecord} (record : ce.record = some r)
    {f : Entry → Entry} (state : ∀ e, (f e).state = e.state) (page : ∀ e, (f e).page = e.page)
    (image : ∀ e (o : Offset), (f e).image[o].isSome) :
    TableHolds budget ce (updateEntry t r.entry f) ∧
      ∀ o : Offset, (updateEntry t r.entry f).entries[r.entry].image[o].isSome := by
  have others : ∀ j : Index, j ≠ r.entry → (updateEntry t r.entry f).entries[j] = t.entries[j] :=
    fun j => updateEntry_entries_of_ne t _
  have self := updateEntry_entries_self t r.entry f
  have full : ∀ o : Offset, (updateEntry t r.entry f).entries[r.entry].image[o].isSome :=
    fun o => by rw [self]; exact image _ o
  have was := h.engine.entry_committing record
  have keep : ∀ x, (updateEntry t r.entry f).entries[r.entry].state = x ↔ t.entries[r.entry].state = x :=
    fun x => by rw [self, state]
  have live : t.entries[r.entry].state ≠ .free := by rw [was]; decide
  refine ⟨h.change others ?_ (.inl ⟨live, by rw [self, page]⟩) (h.wf.queue.keep others (keep _))
    (h.wf.cleans.keep others (keep _)) (fun _ => .inl (by rw [isDirty, was])) (keep _) fun _ o _ => full o, full⟩
  rw [self]
  exact .of_dirty (by rw [isDirty, state, was]) (by rw [page]; exact (h.wf.entry r.entry).paged live)
    (fun o _ => image _ o) fun n => absurd ((state _).trans was) n

/-- What the end of a commit does to its entry: it leaves COMMITTING, and the engine its record. -/
theorem TableHolds.ended (h : TableHolds budget ce t) {r : CommitRecord} (record : ce.record = some r)
    {t' : SettleTable} (others : ∀ j : Index, j ≠ r.entry → t'.entries[j] = t.entries[j])
    (left : t'.entries[r.entry].state ≠ .committing) (page : t'.entries[r.entry].page = t.entries[r.entry].page)
    (entry : EntryWf t'.entries[r.entry]) (queue : Lists t' t'.dueQueue .due) (cleans : Lists t' t'.cleanList .clean)
    {g : Stage} (stage : g = .idle ∨ g = .starting) : TableHolds budget { stage := g, record := none } t' := by
  have was := h.engine.entry_committing record
  refine ⟨h.wf.change others entry (.inl ⟨by rw [was]; decide, page⟩) queue cleans, ?_,
    .of_none rfl stage (h.engine.ended record others left)⟩
  refine Nat.le_trans (dirtyCount_mono fun j d => ?_) h.dirty
  by_cases e : j = r.entry
  · rw [e, isDirty, was]
  · rwa [others j e] at d

/-- A commit that ends in success (R43): the entry, fully known by then, becomes CLEAN, DUE or SETTLING. -/
theorem TableHolds.routeSuccess (h : TableHolds budget ce t) {r : CommitRecord} (record : ce.record = some r)
    (full : ∀ o : Offset, t.entries[r.entry].image[o].isSome) (mode : Mode) {g : Stage}
    (stage : g = .idle ∨ g = .starting) :
    TableHolds budget { stage := g, record := none } (routeSuccess mode r.entry t) := by
  have was := h.engine.entry_committing record
  have e := h.wf.entry r.entry
  have live : t.entries[r.entry].state ≠ .free := by rw [was]; decide
  have notDue : t.entries[r.entry].state ≠ .due := by rw [was]; decide
  have notClean : t.entries[r.entry].state ≠ .clean := by rw [was]; decide
  rcases routeSuccess_cases mode r.entry t with ⟨empty, eq⟩ | ⟨some, ⟨-, eq⟩ | ⟨-, eq⟩⟩ <;> rw [eq]
  · have others : ∀ j : Index, j ≠ r.entry → (updateEntry t r.entry cleanedEntry).entries[j] = t.entries[j] :=
      fun j => updateEntry_entries_of_ne t _
    have self := updateEntry_entries_self t r.entry cleanedEntry
    have clean : (updateEntry t r.entry cleanedEntry).entries[r.entry].state = .clean := by rw [self]; rfl
    refine h.ended record (t' := { updateEntry t r.entry cleanedEntry with cleanList := t.cleanList ++ [r.entry] })
      others (by rw [show SettleTable.entries _ = (updateEntry t r.entry cleanedEntry).entries from rfl, clean]; decide)
      (congrArg Entry.page self :) ?_ (h.wf.queue.keep others ?_) (h.wf.cleans.push others notClean clean) stage
    · show EntryWf (updateEntry t r.entry cleanedEntry).entries[r.entry]
      rw [self]
      exact ⟨fun _ => e.paged live, nofun, fun o c => full o, fun _ => ⟨empty, full⟩, by rintro (c | c | c) <;> cases c⟩
    · rw [show SettleTable.entries _ = (updateEntry t r.entry cleanedEntry).entries from rfl, clean, was]; decide
  all_goals
    have changed : ∃ o : Offset, t.entries[r.entry].changed[o] = true := by
      refine Classical.byContradiction fun none => ?_
      exact some fun k => by simpa using fun c => none ⟨k, c⟩
  · have others : ∀ j : Index, j ≠ r.entry →
        (Machine.promote r.entry (updateEntry t r.entry clearCommitFlags)).entries[j] = t.entries[j] := by
      intro j ne; rw [promote_entries_of_ne _ ne, updateEntry_entries_of_ne _ _ ne]
    have self : (Machine.promote r.entry (updateEntry t r.entry clearCommitFlags)).entries[r.entry] =
        { clearCommitFlags t.entries[r.entry] with state := .due } := by
      rw [promote_entries_self, updateEntry_entries_self]
    have due : (Machine.promote r.entry (updateEntry t r.entry clearCommitFlags)).entries[r.entry].state = .due := by rw [self]
    refine h.ended record others (by rw [due]; decide) (by rw [self]; rfl) ?_ (h.wf.queue.push others notDue due)
      (h.wf.cleans.keep others (by rw [due, was]; decide)) stage
    rw [self]
    exact .of_dirty rfl (e.paged live) e.known fun _ => changed
  · have others : ∀ j : Index, j ≠ r.entry →
        (updateEntry t r.entry fun e => { clearCommitFlags e with state := .settling }).entries[j] = t.entries[j] :=
      fun j => updateEntry_entries_of_ne t _
    have self := updateEntry_entries_self t r.entry fun e => { clearCommitFlags e with state := .settling }
    have settling : (updateEntry t r.entry fun e => { clearCommitFlags e with state := .settling }).entries[r.entry].state
        = .settling := by rw [self]
    refine h.ended record others (by rw [settling]; decide) (by rw [self]; rfl) ?_
      (h.wf.queue.keep others (by rw [settling, was]; decide))
      (h.wf.cleans.keep others (by rw [settling, was]; decide)) stage
    rw [self]
    exact .of_dirty rfl (e.paged live) e.known fun _ => changed

@[simp] theorem pinnedEntry_state (c : OffsetSet) (e : Entry) : (pinnedEntry c e).state = .pinned := by
  simp only [pinnedEntry]
@[simp] theorem pinnedEntry_page (c : OffsetSet) (e : Entry) : (pinnedEntry c e).page = e.page := by
  simp only [pinnedEntry]
theorem pinnedEntry_image (c : OffsetSet) (e : Entry) : (pinnedEntry c e).image = e.image := by simp only [pinnedEntry]

theorem unionOffsets_get (k l : OffsetSet) (o : Offset) : (unionOffsets k l)[o] = (k[o] || l[o]) := by
  show (Vector.ofFn fun o => k[o] || l[o])[o.val] = _
  rw [Vector.getElem_ofFn]

/-- A commit that ends pinned (R44): C joins the changed set, and lies in the known set. -/
theorem TableHolds.pinned (h : TableHolds budget ce t) {r : CommitRecord} (record : ce.record = some r) {g : Stage}
    (stage : g = .idle ∨ g = .starting) :
    TableHolds budget { stage := g, record := none } (updateEntry t r.entry (pinnedEntry r.changeSet)) := by
  have was := h.engine.entry_committing record
  obtain ⟨⟨k, member⟩, known⟩ := h.engine.change r record
  have e := h.wf.entry r.entry
  have others : ∀ j : Index, j ≠ r.entry →
      (updateEntry t r.entry (pinnedEntry r.changeSet)).entries[j] = t.entries[j] :=
    fun j => updateEntry_entries_of_ne t _
  have self := updateEntry_entries_self t r.entry (pinnedEntry r.changeSet)
  have pinned : (updateEntry t r.entry (pinnedEntry r.changeSet)).entries[r.entry].state = .pinned := by
    rw [self, pinnedEntry_state]
  have changed : ∀ o : Offset, (pinnedEntry r.changeSet t.entries[r.entry]).changed[o] =
      (t.entries[r.entry].changed[o] || r.changeSet[o]) := by
    simp only [pinnedEntry]
    exact unionOffsets_get _ _
  refine h.ended record others (by rw [pinned]; decide) (by rw [self, pinnedEntry_page]) ?_
    (h.wf.queue.keep others (by rw [pinned, was]; decide)) (h.wf.cleans.keep others (by rw [pinned, was]; decide)) stage
  rw [self]
  refine .of_dirty (by rw [isDirty, pinnedEntry_state]) (by rw [pinnedEntry_page]; exact e.paged (by rw [was]; decide))
    (fun o c => ?_) fun _ => ⟨k, by rw [changed, member, Bool.or_true]⟩
  rw [pinnedEntry_image]
  rw [changed, Bool.or_eq_true] at c
  exact c.elim (e.known o) (known o)

end

/-! ### The operations on the state -/

theorem TableHolds.placeStart {b : Nat} {s : State} (h : TableHolds b s.ce s.table) :
    TableHolds b s.placeStart.ce s.placeStart.table := by
  unfold State.placeStart
  split
  · rename_i claims
    have empty := h.engine.stages.mpr (.inl claims.1)
    have idle := h.idle empty (g := .starting) (.inr rfl)
    rw [← empty] at idle
    exact idle
  · exact h

/-- The stage after the return to IDLE. -/
theorem State.commitOver_ce (s : State) : ∃ g, (g = .idle ∨ g = .starting) ∧ s.commitOver.ce = { stage := g, record := none } := by
  rw [State.commitOver_eq]
  refine ⟨_, ?_, rfl⟩
  split
  · exact .inr rfl
  · exact .inl rfl

theorem TableHolds.commitSucceeds {b : Nat} {s : State} (h : TableHolds b s.ce s.table) {r : CommitRecord}
    (record : s.ce.record = some r) (full : ∀ o : Offset, s.table.entries[r.entry].image[o].isSome) :
    TableHolds b (s.commitSucceeds r).ce (s.commitSucceeds r).table := by
  obtain ⟨g, stage, ce⟩ := State.commitOver_ce ((s.count .commits).setTable (Machine.routeSuccess s.mode r.entry s.table))
  have table : (s.commitSucceeds r).table = Machine.routeSuccess s.mode r.entry s.table :=
    (congrArg State.table (State.commitOver_frame _) :)
  rw [table, show (s.commitSucceeds r).ce = _ from ce]
  exact h.routeSuccess record full s.mode stage

theorem TableHolds.commitPinned {b : Nat} {s : State} (h : TableHolds b s.ce s.table) {r : CommitRecord}
    (record : s.ce.record = some r) : TableHolds b (s.commitPinned r).ce (s.commitPinned r).table := by
  obtain ⟨g, stage, ce⟩ := State.commitOver_ce (s.setTable (updateEntry s.table r.entry (pinnedEntry r.changeSet)))
  have table : (s.commitPinned r).table = updateEntry s.table r.entry (pinnedEntry r.changeSet) :=
    (congrArg State.table (State.commitOver_frame _) :)
  rw [table, show (s.commitPinned r).ce = _ from ce]
  exact h.pinned record stage

/-- The end of a commit in success looks at the record's entry alone. -/
theorem State.commitSucceeds_congr {r r' : CommitRecord} (h : r'.entry = r.entry) (s : State) :
    s.commitSucceeds r' = s.commitSucceeds r := by
  unfold State.commitSucceeds
  rw [h]

theorem TableHolds.fillDone {b : Nat} {s : State} (h : TableHolds b s.ce s.table) {r : CommitRecord}
    (record : s.ce.record = some r) (m : Page) : TableHolds b (s.fillDone r m).ce (s.fillDone r m).table := by
  obtain ⟨filled, full⟩ := h.complete record (filledEntry_state m) (filledEntry_page m) (filledEntry_image m)
  simp only [State.fillDone]
  generalize updateEntry s.table r.entry (filledEntry m) = t' at filled full ⊢
  generalize completeWith r.buffer m = buffer
  split
  · rw [State.commitSucceeds_congr (r := r) (r' := { r with buffer := buffer }) rfl]
    exact TableHolds.commitSucceeds (s := (s.setTable t').count .commitsElided) filled record full
  · exact filled.goOn record (r' := { r with buffer := buffer }) rfl rfl full (g := .awaitProgram) (by decide)

theorem TableHolds.verifyDone {b : Nat} {s : State} (h : TableHolds b s.ce s.table) {r : CommitRecord}
    (record : s.ce.record = some r) (full : ∀ o : Offset, s.table.entries[r.entry].image[o].isSome) (m : Page) :
    TableHolds b (s.verifyDone r m).ce (s.verifyDone r m).table := by
  unfold State.verifyDone
  split
  · unfold State.verifyMatches
    split
    · rename_i n _ _
      have same : (s.remapTo r.page n).ce = s.ce ∧ (s.remapTo r.page n).table = s.table :=
        ⟨(congrArg State.ce (State.remapTo_frame r.page n s) :), (congrArg State.table (State.remapTo_frame r.page n s) :)⟩
      refine TableHolds.commitSucceeds ?_ (by rw [same.1]; exact record) (by rw [same.2]; exact full)
      rw [same.1, same.2]; exact h
    · exact h.commitSucceeds record full
  · simp only [State.verifyMismatch]
    split
    · exact h.goOn record rfl rfl full (by decide)
    · have frame := State.giveUpTarget_frame r (s.count .verifyFails)
      generalize (s.count .verifyFails).giveUpTarget r = u at frame ⊢
      have same : u.ce = s.ce ∧ u.table = s.table := by rw [frame]; exact ⟨rfl, rfl⟩
      split
      · rename_i n _
        have goesOn := h.goOn record (r' := toTrial n r) rfl rfl full (g := .awaitProgram) (by decide)
        rw [← same.2] at goesOn
        exact goesOn
      · have offers := State.offerUnordered_frame [(.verify, r.page), (.spout, r.page)] (u.raise .spout)
        generalize (u.raise .spout).offerUnordered [(.verify, r.page), (.spout, r.page)] = v at offers ⊢
        have same' : v.ce = s.ce ∧ v.table = s.table := by rw [offers]; exact same
        refine TableHolds.commitPinned ?_ (by rw [same'.1]; exact record)
        rw [same'.1, same'.2]; exact h

/-- Entry into FAULT: a commit in progress ends pinned, and every sync mark is cleared (R105, R194). -/
theorem State.enterFault_table (c : ErrorKind × Nat) (s : State) :
    (s.enterFault c).table =
      mapEntries (fun e => { e with syncMark := false })
        (match s.ce.record with
          | none => s.table
          | some r => updateEntry s.table r.entry (pinnedEntry r.changeSet)) := by
  obtain ⟨e, n, reported⟩ : ∃ e n,
      (s.offerUnordered (faultErrors c s)).faultFlags = { s with events := e, choices := n } :=
    ⟨_, _, by rw [State.faultFlags_frame, State.offerUnordered_frame]⟩
  simp only [State.enterFault, reported]
  rw [State.hostInFault_frame]
  simp only [State.clearSyncMarks, State.commitInFault, State.setStore, State.setMode, State.setPort, State.setFlush]
  cases s.ce.record <;> rfl

theorem TableHolds.enterFault {b : Nat} {s : State} (h : TableHolds b s.ce s.table) (c : ErrorKind × Nat) :
    TableHolds b (s.enterFault c).ce (s.enterFault c).table := by
  have ce : (s.enterFault c).ce = { stage := .idle, record := none } :=
    (congrArg State.ce (State.enterFault_frame c s) :)
  rw [ce, State.enterFault_table]
  refine TableHolds.mapEntries ?_ (fun _ => ⟨rfl, rfl, rfl, rfl⟩) rfl
  cases record : s.ce.record with
  | none => exact h.idle record (.inl rfl)
  | some r => exact h.pinned record (.inl rfl)

end Sys2Proof.Machine
end

section
/-! Every row keeps the laws of the settle table (O58). Before the end of boot the table is empty and idle, which is
what lets the rows of boot keep the laws. -/
namespace Sys2Proof.Machine

/-! ### The laws taken apart -/

/-- R83: which port operations go with which stage of the commit engine. -/
structure PortWf (p : PortState) (g : Stage) : Prop where
  reading : ∀ page, p = .reading (.verify page) → g = .verifying
  programming : ∀ page limit, p = .programming .commitEngine page limit → g = .programming

theorem portWf_idle (g : Stage) : PortWf .idle g := ⟨nofun, nofun⟩

/-- What holds until boot is over. -/
def BootHolds (s : State) : Prop := s.inReset = true ∨ s.boot.stage ≠ .ended → BootLaw s

/-- Out of reset, and boot is over. -/
def booted (s : State) : Prop := s.inReset = false ∧ s.boot.stage = .ended

theorem BootHolds.of_booted {s : State} (h : booted s) : BootHolds s := by
  rintro (reset | stage)
  · rw [h.1] at reset; cases reset
  · exact absurd h.2 stage

theorem BootHolds.cases {s : State} (h : BootHolds s) : booted s ∨ BootLaw s := by
  by_cases reset : s.inReset = true
  · exact .inr (h (.inl reset))
  by_cases stage : s.boot.stage = .ended
  · exact .inl ⟨by simpa using reset, stage⟩
  · exact .inr (h (.inr stage))

theorem tableLaw_iff (s : State) :
    TableLaw s ↔ TableHolds s.cfg.budget s.ce s.table ∧ s.cfg.budget ≤ 32 ∧ PortWf s.port s.ce.stage ∧ BootHolds s := by
  constructor
  · rintro ⟨paged, distinct, free, known, clean, changed, queue, cleans, budget, committing, change, filled, stages,
      reading, programming, boot⟩
    exact ⟨⟨⟨fun i => ⟨paged i, free i, known i, clean i, changed i⟩, distinct, queue, cleans⟩, budget.1,
      ⟨committing, change, filled, stages⟩⟩, budget.2, ⟨reading, programming⟩, boot⟩
  · rintro ⟨⟨⟨entry, distinct, queue, cleans⟩, dirty, ⟨committing, change, filled, stages⟩⟩, cap,
      ⟨reading, programming⟩, boot⟩
    exact ⟨fun i => (entry i).paged, distinct, fun i => (entry i).free, fun i => (entry i).known,
      fun i => (entry i).clean, fun i => (entry i).changed, queue, cleans, ⟨dirty, cap⟩, committing, change, filled,
      stages, reading, programming, boot⟩

section
variable {s : State} (h : TableLaw s)
include h

theorem TableLaw.holds : TableHolds s.cfg.budget s.ce s.table := ((tableLaw_iff s).mp h).1
theorem TableLaw.cap : s.cfg.budget ≤ 32 := h.budget.2
theorem TableLaw.portWf : PortWf s.port s.ce.stage := ((tableLaw_iff s).mp h).2.2.1
theorem TableLaw.bootHolds : BootHolds s := h.boot

/-! What shows that boot is over. -/

theorem TableLaw.booted_of_mode (m : s.mode ≠ .boot) : booted s :=
  h.bootHolds.cases.resolve_right fun b => m b.mode

theorem TableLaw.booted_of_live {i : Index} (live : s.table.entries[i].state ≠ .free) : booted s :=
  h.bootHolds.cases.resolve_right fun b => live (b.free i)

theorem TableLaw.booted_of_record {r : CommitRecord} (record : s.ce.record = some r) : booted s :=
  h.bootHolds.cases.resolve_right fun b => by rw [b.record] at record; cases record

theorem TableLaw.booted_of_job {j : PersistJob} (job : s.store.job = some j) : booted s :=
  h.bootHolds.cases.resolve_right fun b => by rw [b.job] at job; cases job

theorem TableLaw.booted_of_programming {who : Programmer} {page limit : Nat}
    (port : s.port = .programming who page limit) : booted s :=
  h.bootHolds.cases.resolve_right fun b => b.port who page limit port

theorem TableLaw.booted_of_waiting {w : HostAddr × Byte} (waits : waitingWrite s.host = some w) : booted s :=
  h.bootHolds.cases.resolve_right fun b => by rw [b.host] at waits; cases waits

theorem TableLaw.bootLaw_of_stage (stage : s.boot.stage ≠ .ended) : BootLaw s := h.boot (.inr stage)

end

/-- What the laws of the settle table ask of a state after the end of boot. -/
theorem TableLaw.of_booted {t : State} (b : booted t) (holds : TableHolds t.cfg.budget t.ce t.table)
    (cap : t.cfg.budget ≤ 32) (port : PortWf t.port t.ce.stage) : TableLaw t :=
  (tableLaw_iff t).mpr ⟨holds, cap, port, .of_booted b⟩

/-- The laws stay where table, engine, budget and port stay, whatever becomes of the rest, if what holds until the end
of boot does. -/
theorem TableLaw.transfer {s t : State} (h : TableLaw s) (table : t.table = s.table) (ce : t.ce = s.ce)
    (cfg : t.cfg = s.cfg) (port : t.port = s.port) (boot : BootHolds t) : TableLaw t := by
  refine (tableLaw_iff t).mpr ⟨?_, ?_, ?_, boot⟩
  · rw [table, ce, cfg]; exact h.holds
  · rw [cfg]; exact h.cap
  · rw [port, ce]; exact h.portWf

/-- What holds until the end of boot looks at the mode, the table, the record, the job, the port and a waiting write. -/
theorem BootLaw.transfer {s t : State} (b : BootLaw s) (mode : t.mode = s.mode) (table : t.table = s.table)
    (ce : t.ce = s.ce) (job : t.store.job = s.store.job) (port : t.port = s.port)
    (host : waitingWrite t.host = none) : BootLaw t where
  mode := mode.trans b.mode
  free i := by rw [table]; exact b.free i
  record := by rw [ce]; exact b.record
  job := job.trans b.job
  port := by rw [port]; exact b.port
  host := host

theorem BootHolds.transfer {s t : State} (h : BootHolds s) (reset : t.inReset = s.inReset)
    (boot : t.boot = s.boot) (law : BootLaw s → BootLaw t) : BootHolds t := by
  intro c
  rw [reset, boot] at c
  exact law (h c)

/-- The laws stay where only flags, counters, link, flush state, PFW#, time, PNV, map, straps and save fields change. -/
theorem TableLaw.of_same {s t : State} (h : TableLaw s)
    (e : t = { s with
      pending := t.pending, straps := t.straps, time := t.time, regions := t.regions, pnv := t.pnv, remap := t.remap
      store := t.store, flush := t.flush, pfw := t.pfw, link := t.link, events := t.events, choices := t.choices })
    (job : t.store.job = s.store.job) : TableLaw t := by
  generalize t.pending = q at e
  generalize t.straps = straps at e
  generalize t.time = time at e
  generalize t.regions = regions at e
  generalize t.pnv = pnv at e
  generalize t.remap = remap at e
  generalize t.store = store at e job
  generalize t.flush = flush at e
  generalize t.pfw = pfw at e
  generalize t.link = link at e
  generalize t.events = events at e
  generalize t.choices = choices at e
  subst e
  exact h.transfer rfl rfl rfl rfl
    (h.bootHolds.transfer rfl rfl fun b => b.transfer rfl rfl rfl job rfl b.host)

/-- The host port may change too, if no write comes to wait in it before the end of boot. -/
theorem TableLaw.setHost {s : State} (h : TableLaw s) {p : HostPort}
    (waits : booted s ∨ waitingWrite p = none) : TableLaw (s.setHost p) := by
  refine h.transfer rfl rfl rfl rfl ?_
  rcases waits with b | none
  · exact .of_booted b
  · exact h.bootHolds.transfer rfl rfl fun b => b.transfer rfl rfl rfl rfl rfl none

/-! ### The host port -/

theorem waitingWrite_congr {p q : HostPort} (h : p.pend = q.pend) : waitingWrite p = waitingWrite q := by
  unfold waitingWrite
  rw [h]

theorem State.endAccess_waiting (r : Option Byte) (s : State) : waitingWrite (s.endAccess r).host = none := rfl

theorem TableLaw.endAccess {s : State} (h : TableLaw s) (r : Option Byte) : TableLaw (s.endAccess r) :=
  h.setHost (.inr rfl)

theorem TableLaw.setEvents {s : State} (h : TableLaw s) (e : EventUnit) : TableLaw (s.setEvents e) :=
  h.of_same rfl rfl

theorem TableLaw.endRead {s : State} (h : TableLaw s) (b : Byte) : TableLaw (s.endRead b) :=
  (h.setEvents _).endAccess _

theorem TableLaw.dropWrite {s : State} (h : TableLaw s) (f : Flag) (k : ErrorKind) (a : HostAddr) :
    TableLaw (s.dropWrite f k a) :=
  ((h.setEvents _).setEvents _).endAccess _

theorem TableLaw.placeStart {s : State} (h : TableLaw s) (b : booted s) : TableLaw s.placeStart := by
  have frame := State.placeStart_frame s
  have port : PortWf s.port s.placeStart.ce.stage := by
    unfold State.placeStart
    split
    · rename_i claims
      have wf := h.portWf
      rw [claims.1] at wf
      exact ⟨fun p e => (by cases wf.reading p e), fun p l e => (by cases wf.programming p l e)⟩
    · exact h.portWf
  have holds := h.holds.placeStart
  rw [frame] at holds ⊢
  exact .of_booted b holds h.cap port

/-- The table replaced by one that keeps the laws. -/
theorem TableLaw.setTable {s : State} (h : TableLaw s) (b : booted s) {t : SettleTable}
    (holds : TableHolds s.cfg.budget s.ce t) : TableLaw (s.setTable t) :=
  .of_booted b holds h.cap h.portWf

theorem TableLaw.takeResolvedWrite {s t : State} (h : TableLaw s) (b : booted s) {a : HostAddr} {d : Byte}
    (takes : s.takeResolvedWrite a d = some t) : TableLaw t := by
  rcases State.takeResolvedWrite_cases a d s with ⟨-, e⟩ | ⟨-, ⟨r, write, e⟩ | ⟨-, e⟩⟩ <;> rw [e] at takes <;>
    cases takes
  · exact h.dropWrite _ _ _
  · exact ((((h.setTable b (h.holds.write write)).setEvents _).setEvents _).endAccess none).placeStart b

theorem TableLaw.takeWrite_getD {s : State} (h : TableLaw s) (b : booted s) (a : HostAddr) (d : Byte) (p : HostPort) :
    TableLaw ((s.takeWrite a d).getD (s.setHost p)) := by
  cases takes : s.takeWrite a d with
  | none => exact h.setHost (.inl b)
  | some t =>
    rcases State.takeWrite_cases a d s with ⟨-, e⟩ | ⟨-, e⟩ <;> rw [e] at takes
    · cases takes; exact h.dropWrite _ _ _
    · exact h.takeResolvedWrite b takes

theorem TableLaw.takeRead_getD {s : State} (h : TableLaw s) (b : booted s) (a : HostAddr) (p : HostPort) :
    TableLaw ((s.takeRead a).getD (s.setHost p)) := by
  rcases State.takeRead_cases a s with ⟨-, e⟩ | ⟨-, ⟨i, byte, -, e⟩ | ⟨-, ⟨-, e⟩ | ⟨-, e⟩⟩⟩ <;> rw [e]
  · exact ((h.setEvents _).setEvents _).endRead _
  · exact ((h.setTable b (h.holds.touchClean i)).setEvents _).endRead _
  · exact (h.setEvents _).endRead _
  · exact h.setHost (.inl b)

theorem TableLaw.arriveWrite {s : State} (h : TableLaw s) (a : HostAddr) (d : Byte) : TableLaw (s.arriveWrite a d) := by
  unfold State.arriveWrite
  split
  · exact h.setHost (.inr rfl)
  · exact h.dropWrite _ _ _
  · rename_i notBoot _
    exact h.takeWrite_getD (h.booted_of_mode notBoot) a d _

theorem TableLaw.arriveRead {s : State} (h : TableLaw s) (a : HostAddr) : TableLaw (s.arriveRead a) := by
  unfold State.arriveRead
  split
  · exact h.setHost (.inr rfl)
  · rename_i notBoot
    exact h.takeRead_getD (h.booted_of_mode notBoot) a _

theorem TableLaw.takeHeld {s : State} (h : TableLaw s) (b : booted s) : TableLaw s.takeHeld := by
  unfold State.takeHeld
  split
  · exact h
  · split
    · split
      · exact h.dropWrite _ _ _
      · exact h.takeWrite_getD b _ _ _
    · exact h.takeRead_getD b _ _

theorem TableLaw.stallExpires {s : State} (h : TableLaw s) : TableLaw s.stallExpires := by
  unfold State.stallExpires
  split
  · exact h
  · split
    · exact h.dropWrite _ _ _
    · exact ((h.setEvents _).setEvents _).endRead _

theorem TableLaw.hostByteDone {s : State} (h : TableLaw s) : TableLaw s.hostByteDone := by
  unfold State.hostByteDone
  split
  · have idle : TableLaw (s.setPort .idle) := by
      refine (tableLaw_iff _).mpr ⟨h.holds, h.cap, portWf_idle _, h.bootHolds.transfer rfl rfl fun b => ?_⟩
      exact ⟨b.mode, b.free, b.record, b.job, nofun, b.host⟩
    unfold State.byteReadDone
    split
    · exact idle.endRead _
    · exact idle
  · exact h

/-! ### The follow-on rows -/

/-- The oldest SETTLING entry is SETTLING. -/
theorem settlingByAge_head {now : Stamp} {t : SettleTable} {i : Index} {rest : List Index}
    (h : settlingByAge now t = i :: rest) : t.entries[i].state = .settling :=
  mem_settlingByAge.mp (by rw [h]; simp)

/-- What is granted, by the claim that is granted. -/
theorem grantDue_spec {s : State} {f : FollowOn} (h : grantDue s = some f) :
    s.port = .idle ∧
      match f with
      | .byteReadGrant => ∃ a, waitingRead s.host = some a
      | .mapStoreStepGrant => ∃ j, s.store.job = some j
      | .snapshot => s.ce.stage = .starting ∧ s.table.dueQueue ≠ []
      | .programClaimGrant => s.ce.stage = .awaitProgram ∧ ∃ r, s.ce.record = some r
      | .verifyClaimGrant => s.ce.stage = .awaitVerify ∧ ∃ r, s.ce.record = some r
      | _ => False := by
  refine ⟨grantDue_port h, ?_⟩
  unfold grantDue mapStoreClaims at h
  rw [if_neg (by simp [grantDue_port h])] at h
  split at h
  · rename_i read; cases h; exact Option.isSome_iff_exists.mp read
  · split at h
    · rename_i job; cases h; exact Option.isSome_iff_exists.mp job
    · split at h
      · rename_i stage
        split at h
        · cases h
        · rename_i queue; cases h; exact ⟨stage, by simpa using queue⟩
      · rename_i stage
        split at h
        · rename_i record; cases h; exact ⟨stage, Option.isSome_iff_exists.mp record⟩
        · cases h
      · rename_i stage
        split at h
        · rename_i record; cases h; exact ⟨stage, Option.isSome_iff_exists.mp record⟩
        · cases h
      · cases h

theorem TableLaw.startReady {s : State} (h : TableLaw s) (clock : s.boot.stage = .clock 0) : TableLaw s.startReady := by
  have b := h.bootLaw_of_stage (by rw [clock]; nofun)
  unfold State.startReady
  split
  · exact (tableLaw_iff _).mpr ⟨h.holds, h.cap, ⟨nofun, nofun⟩,
      fun _ => ⟨b.mode, b.free, b.record, b.job, nofun, b.host⟩⟩
  · exact h.transfer rfl rfl rfl rfl fun _ => b.transfer rfl rfl rfl rfl rfl b.host

theorem TableLaw.retakeWrite {s : State} (h : TableLaw s) (b : booted s) : TableLaw s.retakeWrite := by
  unfold State.retakeWrite
  split
  · exact h
  · rename_i a d _
    cases takes : s.takeResolvedWrite a d with
    | none => exact h
    | some t => exact h.takeResolvedWrite b takes

theorem TableLaw.applyPressure {s : State} (h : TableLaw s) (b : booted s) : TableLaw s.applyPressure := by
  unfold State.applyPressure
  split
  · exact h
  · rename_i i rest oldest
    exact (h.setTable b (h.holds.promote (.inl (settlingByAge_head oldest)))).placeStart b

theorem TableLaw.grantByteRead {s : State} (h : TableLaw s) : TableLaw s.grantByteRead := by
  unfold State.grantByteRead
  split
  · exact h
  · rename_i a read
    obtain ⟨p, pend, access, -⟩ := waitingRead_eq_some read
    refine (tableLaw_iff _).mpr ⟨h.holds, h.cap, ⟨nofun, nofun⟩, h.bootHolds.transfer rfl rfl fun b => ?_⟩
    refine ⟨b.mode, b.free, b.record, b.job, nofun, ?_⟩
    simp [State.setWait, waitingWrite, pend, access]

theorem TableLaw.grantMapStep {s : State} (h : TableLaw s) {j : PersistJob} (job : s.store.job = some j) :
    TableLaw s.grantMapStep := by
  have b := h.booted_of_job job
  unfold State.grantMapStep
  rw [job]
  split
  · exact h
  · split
    · exact .of_booted b h.holds h.cap ⟨nofun, nofun⟩
    · exact .of_booted b h.holds h.cap ⟨nofun, nofun⟩

theorem TableLaw.takeSnapshot {s : State} (h : TableLaw s) (stage : s.ce.stage = .starting) : TableLaw s.takeSnapshot := by
  unfold State.takeSnapshot
  split
  · exact h
  · rename_i i rest queue
    have due : s.table.entries[i].state = .due := (h.queue.2 i).mp (by rw [queue]; simp)
    have b := h.booted_of_live (i := i) (by rw [due]; decide)
    exact .of_booted b (h.holds.snapshot (h.stages.mpr (.inr stage)) queue rfl rfl) h.cap ⟨nofun, nofun⟩

theorem TableLaw.full {s : State} (h : TableLaw s) {r : CommitRecord} (record : s.ce.record = some r)
    (stage : s.ce.stage ≠ .filling) (o : Offset) : s.table.entries[r.entry].image[o].isSome :=
  h.filled r record stage o

theorem TableLaw.grantProgram {s : State} (h : TableLaw s) {r : CommitRecord} (record : s.ce.record = some r)
    (stage : s.ce.stage ≠ .filling) : TableLaw s.grantProgram := by
  have b := h.booted_of_record record
  unfold State.grantProgram
  rw [record]
  exact .of_booted b (h.holds.goOn (r' := { r with attempts := r.attempts + 1 }) (g := .programming) record rfl rfl
    (h.full record stage) (by decide)) h.cap ⟨nofun, fun _ _ _ => rfl⟩

theorem TableLaw.grantVerify {s : State} (h : TableLaw s) {r : CommitRecord} (record : s.ce.record = some r)
    (stage : s.ce.stage ≠ .filling) : TableLaw s.grantVerify := by
  have b := h.booted_of_record record
  have holds := h.holds.goOn (g := .verifying) record rfl rfl (h.full record stage) (by decide)
  unfold State.grantVerify
  rw [record]
  rw [← record] at holds
  exact .of_booted b holds h.cap ⟨fun _ _ => rfl, nofun⟩

theorem TableLaw.follow {s : State} (h : TableLaw s) {f : FollowOn} (due : s.due = some f) : TableLaw (s.follow f) := by
  obtain ⟨-, spec⟩ := State.due_spec due
  cases f
  case clockStageEnd => exact h.startReady (by simpa [clockStageEndDue] using spec)
  case syncComplete => exact h.of_same rfl rfl
  case saveComplete =>
    show TableLaw s.finishSave
    unfold State.finishSave
    split
    · exact h.of_same rfl rfl
    · exact h.of_same rfl rfl
  case persistJobStart =>
    have mode : s.mode ≠ .boot := by
      intro m
      simp [persistJobStartDue, m] at spec
    exact h.transfer rfl rfl rfl rfl (.of_booted (h.booted_of_mode mode))
  case waitingWriteTakenAgain =>
    refine h.retakeWrite (h.booted_of_mode fun m => ?_)
    simp [waitingWriteDue, m, takesWrites] at spec
  case pressure =>
    refine h.applyPressure (h.booted_of_mode fun m => ?_)
    simp [pressureDue, m, takesWrites] at spec
  case byteReadGrant => exact h.grantByteRead
  case mapStoreStepGrant =>
    obtain ⟨j, job⟩ := (grantDue_spec spec).2
    exact h.grantMapStep job
  case snapshot => exact h.takeSnapshot (grantDue_spec spec).2.1
  case programClaimGrant =>
    obtain ⟨stage, r, record⟩ := (grantDue_spec spec).2
    exact h.grantProgram record (by rw [stage]; decide)
  case verifyClaimGrant =>
    obtain ⟨stage, r, record⟩ := (grantDue_spec spec).2
    exact h.grantVerify record (by rw [stage]; decide)
  case flushDone => exact h.of_same rfl rfl

/-! ### The expiries, the tick, the resets -/

theorem TableLaw.expireEntry {s : State} (h : TableLaw s) {i : Index} (live : s.table.entries[i].state ≠ .free)
    {f : Entry → Entry}
    (same : ∀ e, (f e).state = e.state ∧ (f e).page = e.page ∧ (f e).image = e.image ∧ (f e).changed = e.changed) :
    TableLaw (s.setTable (expiryActs i (updateEntry s.table i f))).placeStart := by
  have b := h.booted_of_live live
  exact (h.setTable b ((h.holds.annotate i f same fun free => absurd free live).expiryActs i)).placeStart b

/-- Entry into FAULT keeps the laws; boot is over then. -/
theorem TableLaw.enterFault {s : State} (holds : TableHolds s.cfg.budget s.ce s.table) (cap : s.cfg.budget ≤ 32)
    (b : booted s) (c : ErrorKind × Nat) : TableLaw (s.enterFault c) := by
  have frame := State.enterFault_frame c s
  have after := holds.enterFault c
  rw [frame] at after ⊢
  exact .of_booted b after cap ⟨nofun, nofun⟩

theorem TableLaw.expire {s : State} (h : TableLaw s) (up : s.inReset = false) {e : Expiry} (waits : expiryWaits e s) :
    TableLaw (s.expire e) := by
  have free : ∀ i : Index, s.table.entries[i].state = .free →
      s.table.entries[i].quiet = none ∧ s.table.entries[i].age = none := by
    intro i free
    rw [h.free i free]
    exact ⟨rfl, rfl⟩
  cases e with
  | quiet i =>
    refine h.expireEntry (i := i) (fun f => ?_) fun _ => ⟨rfl, rfl, rfl, rfl⟩
    cases ((free i f).1).symm.trans waits
  | age i =>
    refine h.expireEntry (i := i) (fun f => ?_) fun _ => ⟨rfl, rfl, rfl, rfl⟩
    cases ((free i f).2).symm.trans waits
  | stall => exact h.stallExpires
  | programLimit =>
    show TableLaw s.programTimesOut
    unfold State.programTimesOut
    split
    · rename_i port
      exact .enterFault h.holds h.cap (h.booted_of_programming port) _
    · exact h
  | ready => exact .enterFault (s := s.bootOver) h.holds h.cap ⟨up, rfl⟩ _

theorem tickPort_programming {p : PortState} {who : Programmer} {page limit : Nat}
    (h : tickPort p = .programming who page limit) : ∃ l, p = .programming who page l := by
  unfold tickPort at h
  split at h
  · cases h; exact ⟨_, rfl⟩
  · exact ⟨_, h⟩

theorem tickPort_reading {p : PortState} {op : ReadOp} (h : tickPort p = .reading op) : p = .reading op := by
  unfold tickPort at h
  split at h
  · cases h
  · exact h

theorem PortWf.tick {p : PortState} {g : Stage} (h : PortWf p g) : PortWf (tickPort p) g where
  reading page e := h.reading page (tickPort_reading e)
  programming page limit e := by
    obtain ⟨l, e⟩ := tickPort_programming e
    exact h.programming page l e

theorem tickBoot_ended (b : BootLoader) : (tickBoot b).stage = .ended ↔ b.stage = .ended := by
  unfold tickBoot
  split <;> simp_all

theorem tickStall_waiting (p : HostPort) : waitingWrite (tickStall p) = waitingWrite p := by
  unfold waitingWrite tickStall
  cases p.pend with
  | none => rfl
  | some q =>
    obtain ⟨access, addr, limit, left, wait⟩ := q
    cases access <;> cases wait <;> rfl

theorem TableLaw.tick {s : State} (h : TableLaw s) : TableLaw s.tick := by
  have waiting : waitingWrite (s.setHost (tickStall s.host)).host = waitingWrite s.host := tickStall_waiting s.host
  have stall : TableLaw (s.setHost (tickStall s.host)) :=
    h.setHost (h.bootHolds.cases.imp id fun b => by rw [tickStall_waiting]; exact b.host)
  generalize eq : s.setHost (tickStall s.host) = u at stall
  simp only [State.tick, eq]
  split
  · exact stall.of_same rfl rfl
  · have holds := stall.holds.mapEntries (f := tickEntry) (fun _ => ⟨rfl, rfl, rfl, rfl⟩) rfl
    have states := mapEntries_entries tickEntry u.table
    unfold State.tickMs
    generalize mapEntries tickEntry u.table = t at holds states
    refine (tableLaw_iff _).mpr ⟨holds, stall.cap, stall.portWf.tick, fun c => ?_⟩
    have b := stall.boot (c.imp id fun n e => n ((tickBoot_ended _).mpr e))
    refine ⟨b.mode, fun i => ?_, b.record, b.job, fun who page limit e => ?_, b.host⟩
    · show t.entries[i].state = .free
      rw [states]; exact b.free i
    · obtain ⟨l, e⟩ := tickPort_programming e
      exact b.port who page l e

theorem reset_entries (i : Index) : SettleTable.reset.entries[i] = Entry.freed := by
  show (Vector.replicate 32 Entry.freed)[i.val] = _
  simp

theorem tableHolds_reset {b : Nat} : TableHolds b { stage := .idle, record := none } SettleTable.reset := by
  have state : ∀ i : Index, SettleTable.reset.entries[i].state = .free := fun i => by rw [reset_entries]; rfl
  refine ⟨⟨fun i => by rw [reset_entries]; exact entryWf_freed, fun i _ live => absurd (state i) live, ?_, ?_⟩, ?_,
    .of_none rfl (.inl rfl) fun j => by rw [state]; decide⟩
  · exact ⟨List.nodup_nil, fun i => by rw [state]; exact ⟨nofun, nofun⟩⟩
  · exact ⟨List.nodup_nil, fun i => by rw [state]; exact ⟨nofun, nofun⟩⟩
  · rw [dirtyCount_of_free state]
    exact Nat.zero_le b

/-- Every state in which the blocks are at their reset values and a reset is asserted keeps the laws. -/
theorem BootLaw.reset {t : State} (mode : t.mode = .boot) (table : t.table = SettleTable.reset)
    (ce : t.ce = { stage := .idle, record := none }) (port : t.port = .idle) (store : t.store = MapStore.reset)
    (waits : waitingWrite t.host = none) : BootLaw t where
  mode := mode
  free i := by rw [table, reset_entries]; rfl
  record := by rw [ce]
  job := by rw [store]; rfl
  port := by rw [port]; nofun
  host := waits

theorem bootLaw_resetBlocks (e : EventUnit) (s : State) : BootLaw (s.resetBlocks e) :=
  .reset rfl rfl rfl rfl rfl rfl

theorem tableLaw_resetBlocks (e : EventUnit) (s : State) : TableLaw (s.resetBlocks e) :=
  (tableLaw_iff _).mpr ⟨tableHolds_reset, by show 8 ≤ 32; decide, portWf_idle _, fun _ => bootLaw_resetBlocks e s⟩

theorem BootLaw.release {s : State} (b : BootLaw s) (m p : BitVec 2) : BootLaw (s.release m p) :=
  ⟨rfl, b.free, b.record, b.job, b.port, (waitingWrite_congr rfl).trans b.host⟩

theorem TableLaw.release {s : State} (h : TableLaw s) (reset : s.inReset = true) (m p : BitVec 2) :
    TableLaw (s.release m p) :=
  h.transfer rfl rfl rfl rfl fun _ => (h.boot (.inl reset)).release m p

/-! ### The commit engine's and the memory port's rows -/

theorem TableLaw.fillReadDone {s : State} (h : TableLaw s) : TableLaw s.fillReadDone := by
  unfold State.fillReadDone
  split
  · rename_i page r _ record
    have b := h.booted_of_record record
    have holds := TableHolds.fillDone (s := s.setPort .idle) h.holds record (s.readPage page)
    have frame : ∀ m, ((s.setPort .idle).fillDone r m) =
        { s with
          port := .idle, table := ((s.setPort .idle).fillDone r m).table
          events := ((s.setPort .idle).fillDone r m).events, ce := ((s.setPort .idle).fillDone r m).ce } := by
      intro m
      simp only [State.fillDone]
      split
      · rw [State.commitSucceeds_frame]; rfl
      · rfl
    generalize s.readPage page = m at holds ⊢
    have frame := frame m
    generalize (s.setPort .idle).fillDone r m = t at holds frame ⊢
    rw [frame]
    exact .of_booted b holds h.cap (portWf_idle _)
  · exact h

theorem TableLaw.verifyReadDone {s : State} (h : TableLaw s) : TableLaw s.verifyReadDone := by
  have frame := State.verifyReadDone_frame s
  by_cases verifies : ∃ page r, s.port = .reading (.verify page) ∧ s.ce.record = some r
  · obtain ⟨page, r, port, record⟩ := verifies
    have b := h.booted_of_record record
    have stage : s.ce.stage ≠ .filling := by rw [h.reading page port]; decide
    have eq : s.verifyReadDone = (s.setPort .idle).verifyDone r (s.readPage page) := by
      simp only [State.verifyReadDone, port, record]
    have holds := TableHolds.verifyDone (s := s.setPort .idle) h.holds record (h.full record stage) (s.readPage page)
    have idle : s.verifyReadDone.port = .idle := by
      rw [eq]
      unfold State.verifyDone
      split
      · rw [State.verifyMatches_frame]; rfl
      · rw [State.verifyMismatch_frame]; rfl
    rw [← eq] at holds
    rw [idle] at frame
    rw [frame] at holds ⊢
    exact .of_booted b holds h.cap (portWf_idle _)
  · have eq : s.verifyReadDone = s := by
      unfold State.verifyReadDone
      split
      · rename_i port record; exact absurd ⟨_, _, port, record⟩ verifies
      · rfl
    rw [eq]; exact h

theorem TableLaw.programDone {s : State} (h : TableLaw s) (res : ProgramResult) : TableLaw (s.programDone res) := by
  unfold State.programDone State.endProgram
  split
  · rename_i page limit port
    have b := h.booted_of_programming port
    have stage := h.programming page limit port
    rw [State.endProgramAt_frame]
    cases record : s.ce.record with
    | none =>
      have := h.stages.mp record
      rw [stage] at this
      rcases this with c | c <;> cases c
    | some r =>
      have holds := h.holds.goOn (g := .awaitVerify) record rfl rfl (h.full record (by rw [stage]; decide)) (by decide)
      rw [← record] at holds
      exact .of_booted b holds h.cap (portWf_idle _)
  · rename_i page limit port
    have b := h.booted_of_programming port
    rw [State.endProgramAt_frame]
    exact .of_booted b h.holds h.cap (portWf_idle _)
  · unfold State.unseenRise State.endCutProgram
    split
    · rw [State.endProgramAt_frame]; exact h.of_same rfl rfl
    · exact h

theorem TableLaw.mapVerifyReadDone {s : State} (h : TableLaw s) : TableLaw s.mapVerifyReadDone := by
  have frame := State.mapVerifyReadDone_frame s
  unfold State.mapVerifyReadDone at frame ⊢
  split
  · rename_i page j _ job
    have b := h.booted_of_job job
    have idle : ((s.setPort .idle).mapVerified j page).port = .idle := by
      unfold State.mapVerified
      split
      · split <;> rfl
      · rfl
    rename_i port
    simp only [port, job] at frame
    rw [idle] at frame
    rw [frame]
    exact .of_booted b h.holds h.cap (portWf_idle _)
  · exact h

/-! ### Boot, hold-up, the link -/

theorem TableLaw.loadPage {s : State} (h : TableLaw s) (b : BootLaw s) (c : Copy) (k : Nat) :
    TableLaw (s.loadPage c k) :=
  (tableLaw_iff _).mpr ⟨h.holds, h.cap, ⟨nofun, nofun⟩, fun _ => ⟨b.mode, b.free, b.record, b.job, nofun, b.host⟩⟩

theorem TableLaw.mrdyHigh {s : State} (h : TableLaw s) (res : ProgramResult) : TableLaw (s.mrdyHigh res) := by
  unfold State.mrdyHigh State.endCutProgram
  split
  · rename_i stage
    have b := h.bootLaw_of_stage (by rw [stage]; nofun)
    rw [State.endProgramAt_frame]
    have law : TableLaw { s with pnv := (s.endProgramAt wholeAddress res).pnv } := h.of_same rfl rfl
    exact law.loadPage (b.transfer rfl rfl rfl rfl rfl b.host) .a 0
  · exact h

/-- The budget of a copy that SELECT chooses is at most 32 (R160, check 7). -/
theorem selectCopy_valid {m : BitVec 2} {a b : List Page} {c : Copy} (h : selectCopy m a b = some c) :
    copyValid m (match c with | .a => a | .b => b) = true := by
  unfold selectCopy at h
  cases va : copyValid m a <;> cases vb : copyValid m b <;> rw [va, vb] at h
  · cases h
  · cases h; exact vb
  · cases h; exact va
  · simp only at h
    split at h <;> cases h
    · exact vb
    · exact va

theorem contentsValid_of_copyValid {m : BitVec 2} {p : List Page} (h : copyValid m p = true) :
    contentsValid m (loadCopy p) = true := by
  simp only [copyValid, Bool.and_eq_true] at h
  exact h.2

theorem budget_of_contentsValid {m : BitVec 2} {v : StoredMap} (h : contentsValid m v = true) : v.cfg.budget ≤ 32 := by
  simp only [contentsValid, settingsValid, Bool.and_eq_true, decide_eq_true_eq] at h
  omega

/-- The end of boot: nothing is in the table, so whatever budget the map brings is kept. -/
theorem TableLaw.endBoot {s : State} (holds : TableHolds s.cfg.budget s.ce s.table) (cap : s.cfg.budget ≤ 32)
    (up : s.inReset = false) : TableLaw s.endBoot := by
  have base : TableLaw (((s.bootOver).setPort .idle).raiseLoss) := by
    rw [State.raiseLoss_frame]
    exact .of_booted ⟨up, rfl⟩ holds cap (portWf_idle _)
  have b : booted (((s.bootOver).setPort .idle).raiseLoss) := by
    rw [State.raiseLoss_frame]
    exact ⟨up, rfl⟩
  simp only [State.endBoot]
  generalize ((s.bootOver).setPort .idle).raiseLoss = u at base b
  split
  · exact (TableLaw.of_booted (t := (u.setMode .holdup).setFlush .flushing) b base.holds base.cap base.portWf).takeHeld b
  · exact (TableLaw.of_booted (t := u.setMode .run) b base.holds base.cap base.portWf).takeHeld b

theorem TableLaw.selectAndBuild {s : State} (h : TableLaw s) (b : BootLaw s) (up : s.inReset = false) :
    TableLaw s.selectAndBuild := by
  have faults : ∀ e, TableLaw (((s.bootOver).raiseLoss).enterFault e) := by
    intro e
    rw [State.raiseLoss_frame]
    exact .enterFault (s := { s.bootOver with events := s.bootOver.raiseLoss.events }) h.holds h.cap ⟨up, rfl⟩ e
  have anyBudget : ∀ n, TableHolds n s.ce s.table :=
    fun n => ⟨h.holds.wf, by rw [dirtyCount_of_free b.free]; exact Nat.zero_le n, h.holds.engine⟩
  simp only [State.selectAndBuild]
  split
  · exact faults _
  · split
    · exact faults _
    · split
      · rename_i select
        exact .endBoot (anyBudget _) (budget_of_contentsValid (contentsValid_of_copyValid (selectCopy_valid select))) up
      · rename_i select
        exact .endBoot (anyBudget _) (budget_of_contentsValid (contentsValid_of_copyValid (selectCopy_valid select))) up
      · exact .endBoot h.holds h.cap up

theorem TableLaw.loadReadDone {s : State} (h : TableLaw s) (up : s.inReset = false) : TableLaw s.loadReadDone := by
  unfold State.loadReadDone
  split
  · rename_i page c k _ stage
    have b := h.bootLaw_of_stage (by rw [stage]; nofun)
    simp only [State.pageLoaded]
    generalize s.readPage page = p
    have added : BootLaw (s.setBoot (addLoaded c p s.boot)) := b.transfer rfl rfl rfl rfl rfl b.host
    have law : TableLaw (s.setBoot (addLoaded c p s.boot)) := h.transfer rfl rfl rfl rfl fun _ => added
    split
    · exact law.loadPage added c (k + 1)
    · cases c with
      | a => exact law.loadPage added .b 0
      | b => exact law.selectAndBuild added up
  · exact h

theorem settlingByAge_nodup (now : Stamp) (t : SettleTable) : (settlingByAge now t).Nodup := by
  refine (settlingByAge_ordered now t).imp fun {i j} older e => ?_
  subst e
  rcases older with less | ⟨-, less⟩
  · exact Nat.lt_irrefl _ less
  · exact Fin.lt_irrefl _ less

theorem TableLaw.enterHoldup {s : State} (h : TableLaw s) (run : s.mode = .run) : TableLaw s.enterHoldup := by
  have b := h.booted_of_mode (by rw [run]; decide)
  have holds := h.holds.promoteAll (settlingByAge_nodup s.time.stamp s.table) fun i m => .inl (mem_settlingByAge.mp m)
  simp only [State.enterHoldup]
  have base : TableLaw ((s.setMode .holdup).setTable (promoteAll (settlingByAge s.time.stamp s.table) s.table)) :=
    .of_booted b holds h.cap h.portWf
  generalize promoteAll (settlingByAge s.time.stamp s.table) s.table = t at base
  split
  · exact TableLaw.placeStart ((base.dropWrite _ _ _).of_same rfl rfl) b
  · exact TableLaw.placeStart (base.of_same rfl rfl) b

theorem TableLaw.leaveHoldup {s : State} (h : TableLaw s) (holdup : s.mode = .holdup) : TableLaw s.leaveHoldup :=
  h.transfer rfl rfl rfl rfl (.of_booted (h.booted_of_mode (by rw [holdup]; decide)))

theorem syncMark_same (e : Entry) :
    (if syncMarks e then { e with syncMark := true } else e).state = e.state ∧
      (if syncMarks e then { e with syncMark := true } else e).page = e.page ∧
      (if syncMarks e then { e with syncMark := true } else e).image = e.image ∧
      (if syncMarks e then { e with syncMark := true } else e).changed = e.changed := by
  split <;> exact ⟨rfl, rfl, rfl, rfl⟩

theorem syncMarks_freed : syncMarks Entry.freed = false := by
  have empty : offsetsEmpty Entry.freed.changed = true := offsetsEmpty_iff.mpr freed_changed
  rw [syncMarks, empty]
  rfl

theorem TableHolds.syncTable {b : Nat} {ce : CommitEngine} {t : SettleTable} (h : TableHolds b ce t) :
    TableHolds b ce (syncTable t) := by
  refine (h.mapEntries syncMark_same (by rw [syncMarks_freed]; rfl)).promoteAll
    ((indicesWhere_ascending t _).imp fun less => Fin.ne_of_lt less) fun i m => .inl ?_
  rw [mapEntries_entries, (syncMark_same _).1]
  simpa [inState] using mem_indicesWhere.mp m

theorem TableLaw.configChange {s : State} (h : TableLaw s) : TableLaw s.configChange := by
  unfold State.configChange
  split
  · exact h.of_same rfl rfl
  · exact h.of_same rfl rfl

theorem TableLaw.refreshFlush {s : State} (h : TableLaw s) : TableLaw s.refreshFlush := by
  rw [State.refreshFlush_frame]
  exact h.of_same rfl rfl

theorem TableLaw.setItem {s : State} (h : TableLaw s) (b : booted s) {i : ConfigItem} {v : Nat}
    (range : itemInRange i v = true) (room : ¬ (i = .budget ∧ v < dirtyCount s.table)) : TableLaw (s.setItem i v) := by
  cases i
  case budget =>
    have low : dirtyCount s.table ≤ v := Nat.not_lt.mp fun less => room ⟨rfl, less⟩
    have high : v ≤ 32 := by simp [itemInRange] at range; exact range.2
    exact .of_booted b ⟨h.holds.wf, low, h.holds.engine⟩ high h.portWf
  all_goals exact .of_booted b h.holds h.cap h.portWf

theorem TableLaw.setConfig {s : State} (h : TableLaw s) (b : booted s) (args : List Byte) :
    TableLaw (replySetConfig args s).after := by
  simp only [replySetConfig]
  split
  · exact h
  · split
    · exact h
    · rename_i range
      split
      · exact h
      · split
        · exact h
        · rename_i room
          exact (h.setItem b (by simpa using range) room).configChange

theorem TableLaw.sync {s : State} (h : TableLaw s) (b : booted s) : TableLaw (replySync s).after := by
  simp only [replySync]
  split
  · exact h
  · have law := h.setTable b h.holds.syncTable
    have up : booted (s.setTable (syncTable s.table)) := b
    simp only [answer]
    generalize s.setTable (syncTable s.table) = u at law up ⊢
    split
    · exact TableLaw.placeStart (s := u.finishSync) (law.of_same rfl rfl) up
    · exact TableLaw.placeStart (s := u.setLink { u.link with longCommand := .sync }) (law.of_same rfl rfl) up

theorem TableLaw.save {s : State} (h : TableLaw s) : TableLaw (replySave s).after := by
  simp only [replySave]
  split
  · exact h.of_same rfl rfl
  · simp only [answer]
    cases job : s.store.job with
    | none => exact TableLaw.refreshFlush (h.of_same rfl rfl)
    | some j => exact TableLaw.refreshFlush (h.of_same rfl rfl)

theorem TableLaw.rearm {s : State} (h : TableLaw s) (b : booted s) : TableLaw (replyRearm s).after := by
  simp only [replyRearm]
  split
  · exact h
  · have holds := h.holds.promoteAll ((indicesWhere_ascending s.table (inState .pinned)).imp fun less => Fin.ne_of_lt less)
      fun i m => .inr (by simpa [inState] using mem_indicesWhere.mp m)
    exact ((h.setTable b holds).placeStart b).refreshFlush

theorem TableLaw.setRegion {s : State} (h : TableLaw s) (args : List Byte) : TableLaw (replySetRegion args s).after := by
  simp only [replySetRegion]
  split
  · exact h
  · split
    · split
      · exact TableLaw.configChange (h.of_same rfl rfl)
      · exact h
    · exact h

/-- A reply that only turns the command down or answers from the state leaves it. -/
theorem commandReply_after {c : Command} (args : List Byte) (s : State)
    (reads : c ≠ .sync ∧ c ≠ .save ∧ c ≠ .rearm ∧ c ≠ .setConfig ∧ c ≠ .setRegion) :
    (commandReply c args s).after = { s with events := (commandReply c args s).after.events } := by
  obtain ⟨sync, save, rearm, setConfig, setRegion⟩ := reads
  cases c
  case sync => exact absurd rfl sync
  case save => exact absurd rfl save
  case rearm => exact absurd rfl rearm
  case setConfig => exact absurd rfl setConfig
  case setRegion => exact absurd rfl setRegion
  case getCounter =>
    simp only [commandReply, replyGetCounter]
    split
    · rfl
    · split <;> rfl
  case queryPage =>
    simp only [commandReply, replyQueryPage]
    split <;> rfl
  case readRecord =>
    simp only [commandReply, replyReadRecord]
    split <;> rfl
  case getConfig =>
    simp only [commandReply, replyGetConfig]
    split
    · rfl
    · split
      · rfl
      · split <;> rfl
  all_goals rfl

theorem TableLaw.reply {s : State} (h : TableLaw s) (b : booted s) (c : Command) (args : List Byte) :
    TableLaw (commandReply c args s).after := by
  by_cases reads : c ≠ .sync ∧ c ≠ .save ∧ c ≠ .rearm ∧ c ≠ .setConfig ∧ c ≠ .setRegion
  · rw [commandReply_after args s reads]
    exact h.of_same rfl rfl
  · cases c
    case sync => exact h.sync b
    case save => exact h.save
    case rearm => exact h.rearm b
    case setConfig => exact h.setConfig b args
    case setRegion => exact h.setRegion args
    all_goals exact absurd (by decide) reads

/-- In BOOT the two commands that are answered leave the state (R157). -/
theorem commandReply_inBoot {c : Command} (answered : answeredInBoot c = true) (args : List Byte) (s : State) :
    (commandReply c args s).after = s := by
  cases c
  case getId | getStatus => rfl
  all_goals cases answered

/-- A command's effect: none but its answer, or the reply's with the command out of BOOT. -/
theorem State.takeEffect_cases (c : Command) (args : List Byte) (s : State) :
    ∃ f, s.takeEffect c args = s.setFrame f ∨
      (s.mode ≠ .boot ∧ s.takeEffect c args = (commandReply c args s).after.setFrame f) := by
  simp only [State.takeEffect, decideReply]
  split
  · exact ⟨_, .inl rfl⟩
  · rename_i taken
    split
    · exact ⟨_, .inl rfl⟩
    · refine ⟨.response (responseBytes c (commandReply c args s)), ?_⟩
      by_cases m : s.mode = .boot
      · have answered : answeredInBoot c = true := by
          cases a : answeredInBoot c
          · exact absurd ⟨m, a⟩ taken
          · rfl
        exact .inl (congrArg _ (commandReply_inBoot answered args s))
      · exact .inr ⟨m, rfl⟩

theorem TableLaw.takeEffect {s : State} (h : TableLaw s) (c : Command) (args : List Byte) :
    TableLaw (s.takeEffect c args) := by
  obtain ⟨f, e | ⟨m, e⟩⟩ := State.takeEffect_cases c args s <;> rw [e]
  · exact h.of_same rfl rfl
  · exact (h.reply (h.booted_of_mode m) c args).of_same rfl rfl

/-- Every row keeps the laws of the settle table. -/
theorem keeps_tableLaw (c : Instr) : Keeps c TableLaw where
  follow _ _ h due := h.follow due
  expire _ _ _ h up waits := h.expire up waits
  tick _ _ h _ := h.tick
  powerOn _ s _ := tableLaw_resetBlocks _ s
  rst _ s _ := tableLaw_resetBlocks _ s
  release m p _ _ h reset := h.release reset m p
  host _ _ h pend := h.transfer rfl rfl rfl rfl
    (h.bootHolds.transfer rfl rfl fun b => b.transfer rfl rfl rfl rfl rfl ((waitingWrite_congr pend).trans b.host))
  pfw _ _ h := h.of_same rfl rfl
  frame _ _ _ h := h.of_same rfl rfl
  arriveWrite a d _ _ h _ := h.arriveWrite a d
  arriveRead a _ _ h _ := h.arriveRead a
  fill _ _ h _ := h.fillReadDone
  program r _ _ h _ := h.programDone r
  verify _ _ h _ := h.verifyReadDone
  hostByte _ _ h _ := h.hostByteDone
  mapVerify _ _ h _ := h.mapVerifyReadDone
  mrdy r _ _ h _ := h.mrdyHigh r
  load _ _ h up := h.loadReadDone up
  enterHoldup _ _ h _ run := h.enterHoldup run
  leaveHoldup _ _ h _ holdup := h.leaveHoldup holdup
  command c args _ _ h _ := h.takeEffect c args

/-- Settles O58: every row keeps the laws of the settle table, and the queue is no part of them. -/
theorem everyStepKeepsTheSettleTableLaws : Obligations.EveryStepKeepsTheSettleTableLaws :=
  fun _ _ law run => step_keeps (fun _ _ h => h.of_same rfl rfl) keeps_tableLaw law run

end Sys2Proof.Machine
end

section
/-! The remap unit: where a record is placed, what the REMAP and RETIRE changes do to the list, and its laws (R4 to R11). -/
namespace Sys2Proof.Machine

/-! ### Placing a record (R6) -/

theorem placeRecord_perm (m : MapRecord) (l : List MapRecord) : (placeRecord m l).Perm (m :: l) := by
  induction l with
  | nil => exact .refl _
  | cons x rest ih =>
    unfold placeRecord
    split
    · exact .refl _
    · exact (ih.cons x).trans (.swap m x rest)

theorem mem_placeRecord {m x : MapRecord} {l : List MapRecord} : x ∈ placeRecord m l ↔ x = m ∨ x ∈ l :=
  (placeRecord_perm m l).mem_iff.trans List.mem_cons

theorem placeRecord_length (m : MapRecord) (l : List MapRecord) : (placeRecord m l).length = l.length + 1 :=
  (placeRecord_perm m l).length_eq

theorem placeRecord_ascending {m : MapRecord} {l : List MapRecord} (ascending : (l.map (·.spare)).Pairwise (· < ·))
    (fresh : ∀ x ∈ l, x.spare ≠ m.spare) : ((placeRecord m l).map (·.spare)).Pairwise (· < ·) := by
  induction l with
  | nil => simp [placeRecord]
  | cons x rest ih =>
    obtain ⟨below, rising⟩ := List.pairwise_cons.mp (List.map_cons ▸ ascending)
    have less : ∀ y ∈ rest, x.spare < y.spare := fun y mem => below _ (List.mem_map_of_mem mem)
    unfold placeRecord
    split
    · rename_i first
      rw [List.map_cons]
      refine List.pairwise_cons.mpr ⟨fun n mem => ?_, ascending⟩
      obtain ⟨y, y_mem, rfl⟩ := List.mem_map.mp mem
      rcases List.mem_cons.mp y_mem with rfl | y_mem
      · exact first
      · exact Nat.lt_trans first (less y y_mem)
    · rename_i later
      have above : x.spare < m.spare := by have := fresh x (by simp); omega
      rw [List.map_cons]
      refine List.pairwise_cons.mpr ⟨fun n mem => ?_, ih rising fun y mem => fresh y (by simp [mem])⟩
      obtain ⟨y, y_mem, rfl⟩ := List.mem_map.mp mem
      rcases mem_placeRecord.mp y_mem with rfl | y_mem
      · exact above
      · exact less y y_mem

/-! ### The REMAP records of a list -/

/-- The pages of the REMAP records (R6). -/
def remappedPages (l : List MapRecord) : List Nat := (l.filter fun m => m.kind == .remap).map (·.page)

theorem mem_remappedPages {l : List MapRecord} {p : Nat} :
    p ∈ remappedPages l ↔ ∃ m ∈ l, m.kind = .remap ∧ m.page = p := by
  simp [remappedPages, and_assoc]

theorem remappedPages_placeRecord (m : MapRecord) (l : List MapRecord) :
    (remappedPages (placeRecord m l)).Perm (remappedPages (m :: l)) :=
  ((placeRecord_perm m l).filter _).map _

theorem remappedPages_cons_retired {m : MapRecord} (retired : m.kind = .retired) (l : List MapRecord) :
    remappedPages (m :: l) = remappedPages l := by
  simp [remappedPages, retired]

theorem remappedPages_cons_remap {m : MapRecord} (remap : m.kind = .remap) (l : List MapRecord) :
    remappedPages (m :: l) = m.page :: remappedPages l := by
  simp [remappedPages, remap]

/-! ### An earlier record of the page is RETIRED in its place (R10) -/

@[simp] theorem retireOld_spare (page : Nat) (m : MapRecord) : (retireOld page m).spare = m.spare := by
  unfold retireOld
  split <;> rfl

theorem retireOld_of_page {page : Nat} {m : MapRecord} (h : m.kind = .remap ∧ m.page = page) :
    retireOld page m = { kind := .retired, spare := m.spare, page := 0 } := by
  simp [retireOld, h.1, h.2]

theorem retireOld_of_ne {page : Nat} {m : MapRecord} (h : ¬ (m.kind = .remap ∧ m.page = page)) :
    retireOld page m = m := by
  unfold retireOld
  rw [if_neg (by simpa using h)]

/-- A REMAP record after `retireOld` was one before, of another page. -/
theorem retireOld_remap {page : Nat} {m : MapRecord} (h : (retireOld page m).kind = .remap) :
    retireOld page m = m ∧ m.page ≠ page := by
  by_cases old : m.kind = .remap ∧ m.page = page
  · rw [retireOld_of_page old] at h; cases h
  · have same := retireOld_of_ne old
    rw [same] at h
    exact ⟨same, fun e => old ⟨h, e⟩⟩

theorem remappedPages_retireOld (page : Nat) (l : List MapRecord) :
    remappedPages (l.map (retireOld page)) = (remappedPages l).filter (· != page) := by
  induction l with
  | nil => rfl
  | cons m rest ih =>
    rw [List.map_cons]
    by_cases old : m.kind = .remap ∧ m.page = page
    · rw [retireOld_of_page old, remappedPages_cons_retired rfl, ih, remappedPages_cons_remap old.1]
      simp [old.2]
    · rw [retireOld_of_ne old]
      cases kind : m.kind with
      | retired => rw [remappedPages_cons_retired kind, remappedPages_cons_retired kind, ih]
      | remap =>
        have other : m.page ≠ page := fun e => old ⟨kind, e⟩
        rw [remappedPages_cons_remap kind, remappedPages_cons_remap kind, ih]
        simp [other]

/-- The records that the REMAP change leaves (R10). -/
theorem mem_remapChange {page n : Nat} {r : RemapUnit} {x : MapRecord} :
    x ∈ (remapChange page n r).records ↔
      x = { kind := .remap, spare := n, page := page } ∨ ∃ m ∈ r.records, retireOld page m = x := by
  unfold remapChange
  rw [mem_placeRecord, List.mem_map]

/-! ### The laws of the map (R4 to R6) -/

/-- The laws of the list and of S and Lcap. -/
structure RemapWf (msize : BitVec 2) (m : RemapUnit) : Prop where
  capacity : m.built = true ∧ sparesValid m.spares = true ∧ m.capacity = pageCount msize - 34 - m.spares ∨
    m.built = false ∧ m.spares = 0 ∧ m.capacity = 0 ∧ m.records = []
  ascending : (m.records.map (·.spare)).Pairwise (· < ·)
  bound : ∀ x ∈ m.records, x.spare < m.spares
  retired : ∀ x ∈ m.records, x.kind = .retired → x.page = 0
  remapped : ∀ x ∈ m.records, x.kind = .remap → x.page < m.capacity
  distinct : (remappedPages m.records).Nodup

/-- The laws do not look at the spares-low report state. -/
theorem RemapWf.setReport {msize : BitVec 2} {m : RemapUnit} (h : RemapWf msize m) (v : ReportState) :
    RemapWf msize { m with lowReport := v } :=
  ⟨h.capacity, h.ascending, h.bound, h.retired, h.remapped, h.distinct⟩

/-- A spare below S stands in a map that is built. -/
theorem RemapWf.built_of_spare {msize : BitVec 2} {m : RemapUnit} (h : RemapWf msize m) {n : Nat} (below : n < m.spares) :
    m.built = true ∧ sparesValid m.spares = true ∧ m.capacity = pageCount msize - 34 - m.spares := by
  refine h.capacity.resolve_right fun unbuilt => ?_
  rw [unbuilt.2.1] at below
  omega

/-- The RETIRE change of a spare that no record names (R11). -/
theorem RemapWf.retireChange {msize : BitVec 2} {m : RemapUnit} (h : RemapWf msize m) {n : Nat} (below : n < m.spares)
    (fresh : ∀ x ∈ m.records, x.spare ≠ n) : RemapWf msize (retireChange n m) where
  capacity := .inl (h.built_of_spare below)
  ascending := placeRecord_ascending h.ascending fresh
  bound x mem := by
    rcases mem_placeRecord.mp mem with rfl | mem
    · exact below
    · exact h.bound x mem
  retired x mem kind := by
    rcases mem_placeRecord.mp mem with rfl | mem
    · rfl
    · exact h.retired x mem kind
  remapped x mem kind := by
    rcases mem_placeRecord.mp mem with rfl | mem
    · cases kind
    · exact h.remapped x mem kind
  distinct := by
    refine (remappedPages_placeRecord _ _).nodup_iff.mpr ?_
    rw [remappedPages_cons_retired rfl]
    exact h.distinct

/-- The REMAP change of a page below Lcap and a spare that no record names (R10). -/
theorem RemapWf.remapChange {msize : BitVec 2} {m : RemapUnit} (h : RemapWf msize m) {page n : Nat}
    (inRange : page < m.capacity) (below : n < m.spares) (fresh : ∀ x ∈ m.records, x.spare ≠ n) :
    RemapWf msize (remapChange page n m) where
  capacity := .inl (h.built_of_spare below)
  ascending := by
    refine placeRecord_ascending ?_ ?_
    · simpa [List.map_map, Function.comp_def] using h.ascending
    · intro x mem
      obtain ⟨y, y_mem, rfl⟩ := List.mem_map.mp mem
      rw [retireOld_spare]
      exact fresh y y_mem
  bound x mem := by
    rcases mem_remapChange.mp mem with rfl | ⟨y, y_mem, rfl⟩
    · exact below
    · rw [retireOld_spare]; exact h.bound y y_mem
  retired x mem kind := by
    rcases mem_remapChange.mp mem with rfl | ⟨y, y_mem, rfl⟩
    · cases kind
    · by_cases old : y.kind = .remap ∧ y.page = page
      · rw [retireOld_of_page old]
      · rw [retireOld_of_ne old] at kind ⊢
        exact h.retired y y_mem kind
  remapped x mem kind := by
    rcases mem_remapChange.mp mem with rfl | ⟨y, y_mem, rfl⟩
    · exact inRange
    · have same := (retireOld_remap kind).1
      rw [same] at kind ⊢
      exact h.remapped y y_mem kind
  distinct := by
    refine (remappedPages_placeRecord _ _).nodup_iff.mpr ?_
    rw [remappedPages_cons_remap rfl, remappedPages_retireOld]
    exact List.nodup_cons.mpr ⟨by simp, h.distinct.filter _⟩

/-- BUILD (R14, R163): what check 8 and 9 of R160 say is what the laws ask. -/
theorem remapWf_of_contentsValid {msize : BitVec 2} {v : StoredMap} (h : contentsValid msize v = true) :
    RemapWf msize
      { built := true, spares := v.spares, capacity := logicalCapacity msize v.spares, records := v.records
        lowReport := .clear } := by
  simp only [contentsValid, recordsValid, Bool.and_eq_true, decide_eq_true_eq, List.all_eq_true, Bool.or_eq_true,
    beq_iff_eq] at h
  obtain ⟨⟨⟨⟨⟨valid, -⟩, -⟩, -⟩, -⟩, ⟨⟨⟨ascending, bound⟩, retired⟩, remapped⟩, distinct⟩ := h
  refine ⟨.inl ⟨rfl, valid, rfl⟩, ascending, bound, fun x mem kind => ?_, fun x mem kind => ?_, distinct⟩
  · exact (retired x mem).resolve_left (by rw [kind]; decide)
  · exact (remapped x mem).resolve_left (by rw [kind]; decide)

/-- FRESH (R164): no records, and S from the strap. -/
theorem remapWf_fresh (msize spare : BitVec 2) :
    RemapWf msize
      { built := true, spares := spareCount spare, capacity := logicalCapacity msize (spareCount spare), records := []
        lowReport := .clear } := by
  refine ⟨.inl ⟨rfl, ?_, rfl⟩, .nil, nofun, nofun, nofun, .nil⟩
  show sparesValid (spareCount spare) = true
  revert spare
  decide

theorem remapWf_reset (msize : BitVec 2) : RemapWf msize RemapUnit.reset :=
  ⟨.inr ⟨rfl, rfl, rfl, rfl⟩, .nil, nofun, nofun, nofun, .nil⟩

/-! ### Allocation and resolution (R8, R9) -/

theorem spareNamed_iff {r : RemapUnit} {n : Nat} : spareNamed r n = true ↔ ∃ m ∈ r.records, m.spare = n := by
  simp [spareNamed]

theorem allocate_eq_some_iff {r : RemapUnit} {n : Nat} :
    allocate r = some n ↔
      n < r.spares ∧ (∀ m ∈ r.records, m.spare ≠ n) ∧ ∀ k < n, ∃ m ∈ r.records, m.spare = k := by
  unfold allocate
  rw [List.find?_range_eq_some]
  simp only [List.mem_range, Bool.not_eq_true', Bool.not_not]
  have free : spareNamed r n = false ↔ ∀ m ∈ r.records, m.spare ≠ n := by
    rw [← Bool.not_eq_true, spareNamed_iff]
    exact ⟨fun none m mem same => none ⟨m, mem, same⟩, fun free ⟨m, mem, same⟩ => free m mem same⟩
  simp only [free, spareNamed_iff]
  exact and_left_comm

theorem allocate_eq_none_iff {r : RemapUnit} :
    allocate r = none ↔ ∀ n < r.spares, ∃ m ∈ r.records, m.spare = n := by
  unfold allocate
  simp [List.find?_eq_none, spareNamed_iff]

end Sys2Proof.Machine
end

section
/-! What the commit, the job, the map and the program in progress are after each row: most rows leave them, and the rows
that do not are said one by one. The laws of the map and of what is programmed are carried over this. -/
namespace Sys2Proof.Machine

/-- Two maps that differ at most in the spares-low report state. -/
def sameMap (m m' : RemapUnit) : Prop := m = { m' with lowReport := m.lowReport }

theorem sameMap_refl (m : RemapUnit) : sameMap m m := rfl

/-- Two commit records with the same page and target. -/
def sameTarget (r r' : CommitRecord) : Prop :=
  r.page = r'.page ∧ r.target = r'.target ∧ r.targetPage = r'.targetPage ∧ r.trial = r'.trial

/-- Two jobs at the same page of the same image for the same copy. -/
def samePlace (j j' : PersistJob) : Prop := j.target = j'.target ∧ j.page = j'.page ∧ j.image = j'.image

/-- From `s` to `t` no map record, no commit's target, no job's place and no current copy has changed, no program has
started, and one that goes on still has its commit or its job. A commit or a job may have ended. -/
structure Untouched (s t : State) : Prop where
  straps : t.straps = s.straps
  map : sameMap t.remap s.remap
  record : ∀ r', t.ce.record = some r' → ∃ r, s.ce.record = some r ∧ sameTarget r' r
  current : t.store.current = s.store.current
  job : ∀ j', t.store.job = some j' → ∃ j, s.store.job = some j ∧ samePlace j' j
  program : ∀ who page limit, t.port = .programming who page limit →
    (∃ l, s.port = .programming who page l) ∧
      (∀ r, s.ce.record = some r → ∃ r', t.ce.record = some r' ∧ sameTarget r' r) ∧ t.store.job = s.store.job
  boot : t.inReset = true ∨ t.boot.stage ≠ .ended → s.inReset = true ∨ s.boot.stage ≠ .ended

/-- Where map, record, job, current copy, port and boot stage stay. -/
theorem Untouched.of_eq {s t : State} (straps : t.straps = s.straps) (map : sameMap t.remap s.remap)
    (record : t.ce.record = s.ce.record) (current : t.store.current = s.store.current)
    (job : t.store.job = s.store.job) (port : t.port = s.port)
    (boot : t.inReset = true ∨ t.boot.stage ≠ .ended → s.inReset = true ∨ s.boot.stage ≠ .ended) : Untouched s t where
  straps := straps
  map := map
  record r' e := ⟨r', record ▸ e, rfl, rfl, rfl, rfl⟩
  current := current
  job j' e := ⟨j', job ▸ e, rfl, rfl, rfl⟩
  program _ _ limit e := ⟨⟨limit, port ▸ e⟩, fun r e => ⟨r, record ▸ e, rfl, rfl, rfl, rfl⟩, job⟩
  boot := boot

theorem Untouched.refl (s : State) : Untouched s s := .of_eq rfl rfl rfl rfl rfl rfl id

/-- The rows of the host port, of the table, of the link and of the events leave all but table, start claim and host. -/
theorem Untouched.of_same {s t : State}
    (e : t = { s with
      pending := t.pending, mode := t.mode, time := t.time, host := t.host, regions := t.regions, cfg := t.cfg
      table := t.table, ce := t.ce, pnv := t.pnv, flush := t.flush, pfw := t.pfw, link := t.link, events := t.events
      choices := t.choices })
    (record : t.ce.record = s.ce.record) : Untouched s t := by
  generalize t.pending = q at e
  generalize t.mode = mode at e
  generalize t.time = time at e
  generalize t.host = host at e
  generalize t.regions = regions at e
  generalize t.cfg = cfg at e
  generalize t.table = table at e
  generalize t.ce = ce at e record
  generalize t.pnv = pnv at e
  generalize t.flush = flush at e
  generalize t.pfw = pfw at e
  generalize t.link = link at e
  generalize t.events = events at e
  generalize t.choices = choices at e
  subst e
  exact .of_eq rfl rfl record rfl rfl rfl id

/-! ### The start claim leaves the record -/

theorem State.placeStart_record (s : State) : s.placeStart.ce.record = s.ce.record := by
  rw [State.placeStart_eq]
  simp only [State.setCe_ce]
  split <;> rfl

theorem State.commitOver_record (s : State) : s.commitOver.ce.record = none := by
  rw [State.commitOver_eq]; rfl

theorem State.takeResolvedWrite_record {a : HostAddr} {d : Byte} {s t : State} (h : s.takeResolvedWrite a d = some t) :
    t.ce.record = s.ce.record := by
  rcases State.takeResolvedWrite_cases a d s with ⟨-, e⟩ | ⟨-, ⟨r, -, e⟩ | ⟨-, e⟩⟩ <;> rw [e] at h <;> cases h
  · rfl
  · exact State.placeStart_record _

theorem State.takeWrite_getD_record (a : HostAddr) (d : Byte) (s : State) (p : HostPort) :
    ((s.takeWrite a d).getD (s.setHost p)).ce.record = s.ce.record := by
  cases takes : s.takeWrite a d with
  | none => rfl
  | some t =>
    rcases State.takeWrite_cases a d s with ⟨-, e⟩ | ⟨-, e⟩ <;> rw [e] at takes
    · cases takes; rfl
    · exact State.takeResolvedWrite_record takes

theorem State.arriveWrite_record (a : HostAddr) (d : Byte) (s : State) :
    (s.arriveWrite a d).ce.record = s.ce.record := by
  unfold State.arriveWrite
  split
  · rfl
  · rfl
  · exact State.takeWrite_getD_record a d s _

theorem State.takeHeld_record (s : State) : s.takeHeld.ce.record = s.ce.record := by
  unfold State.takeHeld
  split
  · rfl
  · split
    · split
      · rfl
      · exact State.takeWrite_getD_record _ _ s _
    · exact (congrArg (fun t : State => t.ce.record) (State.takeRead_getD_frame _ s _) :)

/-! ### Rows that leave it all -/

theorem Untouched.arriveWrite (a : HostAddr) (d : Byte) (s : State) : Untouched s (s.arriveWrite a d) := by
  rw [State.arriveWrite_frame]
  exact .of_same rfl (State.arriveWrite_record a d s)

theorem Untouched.arriveRead (a : HostAddr) (s : State) : Untouched s (s.arriveRead a) := by
  rw [State.arriveRead_frame]
  exact .of_same rfl rfl

theorem Untouched.retakeWrite (s : State) : Untouched s s.retakeWrite := by
  rw [State.retakeWrite_frame]
  refine .of_same rfl ?_
  show s.retakeWrite.ce.record = s.ce.record
  unfold State.retakeWrite
  split
  · rfl
  · rename_i a d _
    cases takes : s.takeResolvedWrite a d with
    | none => rfl
    | some t => exact State.takeResolvedWrite_record takes

theorem Untouched.applyPressure (s : State) : Untouched s s.applyPressure := by
  rw [State.applyPressure_frame]
  refine .of_same rfl ?_
  show s.applyPressure.ce.record = s.ce.record
  unfold State.applyPressure
  split
  · rfl
  · exact State.placeStart_record _

theorem Untouched.enterHoldup (s : State) : Untouched s s.enterHoldup := by
  rw [State.enterHoldup_frame]
  refine .of_same rfl ?_
  show s.enterHoldup.ce.record = s.ce.record
  simp only [State.enterHoldup]
  rw [State.placeStart_record]
  split <;> rfl

/-- The port at rest or at a read, the rest as it was. -/
theorem Untouched.setPort {s : State} {p : PortState} (quiet : ∀ who page limit, p ≠ .programming who page limit) :
    Untouched s (s.setPort p) where
  straps := rfl
  map := rfl
  record r' e := ⟨r', e, rfl, rfl, rfl, rfl⟩
  current := rfl
  job j' e := ⟨j', e, rfl, rfl, rfl⟩
  program who page limit e := absurd e (quiet who page limit)
  boot := id

theorem Untouched.trans {s t u : State} (a : Untouched s t) (b : Untouched t u) : Untouched s u where
  straps := b.straps.trans a.straps
  map := by
    have first := a.map
    have second := b.map
    unfold sameMap at first second ⊢
    rw [second, first]
  record r e := by
    obtain ⟨r1, e1, p1, t1, q1, k1⟩ := b.record r e
    obtain ⟨r2, e2, p2, t2, q2, k2⟩ := a.record r1 e1
    exact ⟨r2, e2, p1.trans p2, t1.trans t2, q1.trans q2, k1.trans k2⟩
  current := b.current.trans a.current
  job j e := by
    obtain ⟨j1, e1, t1, p1, i1⟩ := b.job j e
    obtain ⟨j2, e2, t2, p2, i2⟩ := a.job j1 e1
    exact ⟨j2, e2, t1.trans t2, p1.trans p2, i1.trans i2⟩
  program who page limit e := by
    obtain ⟨⟨l, e1⟩, r1, j1⟩ := b.program who page limit e
    obtain ⟨port, r2, j2⟩ := a.program who page l e1
    refine ⟨port, fun r e => ?_, j1.trans j2⟩
    obtain ⟨r', e', p', t', q', k'⟩ := r2 r e
    obtain ⟨r'', e'', p'', t'', q'', k''⟩ := r1 r' e'
    exact ⟨r'', e'', p''.trans p', t''.trans t', q''.trans q', k''.trans k'⟩
  boot c := a.boot (b.boot c)

/-- A commit that ends, with the port not programming. -/
theorem Untouched.noRecord {s t : State}
    (e : t = { s with table := t.table, events := t.events, ce := t.ce })
    (none : t.ce.record = none) (quiet : ∀ who page limit, s.port ≠ .programming who page limit) : Untouched s t where
  straps := by rw [e]
  map := by rw [e]; rfl
  record r' e' := by rw [none] at e'; cases e'
  current := by rw [e]
  job j' e' := ⟨j', by rw [e] at e'; exact e', rfl, rfl, rfl⟩
  program who page limit e' := absurd (by rw [e] at e'; exact e') (quiet who page limit)
  boot c := by rw [e] at c; exact c

theorem Untouched.fillReadDone (s : State) : Untouched s s.fillReadDone := by
  unfold State.fillReadDone
  split
  · rename_i page r _ record
    have idle : Untouched s (s.setPort .idle) := .setPort nofun
    refine idle.trans ?_
    simp only [State.fillDone]
    generalize updateEntry (s.setPort .idle).table r.entry (filledEntry (s.readPage page)) = t
    split
    · refine .noRecord ?_ (State.commitOver_record _) nofun
      rw [State.commitSucceeds_frame]; rfl
    · exact ⟨rfl, rfl, fun r' e => ⟨r, record, by cases e; exact ⟨rfl, rfl, rfl, rfl⟩⟩, rfl,
        fun j' e => ⟨j', e, rfl, rfl, rfl⟩, nofun, id⟩
  · exact .refl s

theorem Untouched.programDone (res : ProgramResult) (s : State) : Untouched s (s.programDone res) := by
  unfold State.programDone State.endProgram
  split
  · rw [State.endProgramAt_frame]
    exact ⟨rfl, rfl, fun r' e => ⟨r', e, rfl, rfl, rfl, rfl⟩, rfl, fun j' e => ⟨j', e, rfl, rfl, rfl⟩, nofun, id⟩
  · rw [State.endProgramAt_frame]
    refine ⟨rfl, rfl, fun r' e => ⟨r', e, rfl, rfl, rfl, rfl⟩, rfl, fun j' e => ?_, nofun, id⟩
    rw [MapStore.job_eq_some] at e
    exact ⟨s.store.jobData, (MapStore.job_eq_some _ _).mpr ⟨e.1, rfl⟩, by cases e.2; exact ⟨rfl, rfl, rfl⟩⟩
  · unfold State.unseenRise State.endCutProgram
    split
    · rw [State.endProgramAt_frame]; exact .of_same rfl rfl
    · exact .refl s

theorem Untouched.hostByteDone (s : State) : Untouched s s.hostByteDone := by
  unfold State.hostByteDone
  split
  · refine (Untouched.setPort (s := s) (p := .idle) nofun).trans ?_
    rw [State.byteReadDone_frame]
    exact .of_same rfl rfl
  · exact .refl s

theorem Untouched.tick (s : State) : Untouched s s.tick := by
  have frame := State.tick_frame s
  have port : ∀ who page limit, s.tick.port = .programming who page limit → ∃ l, s.port = .programming who page l := by
    intro who page limit
    simp only [State.tick]
    split
    · exact fun e => ⟨limit, e⟩
    · exact tickPort_programming
  have boot : s.tick.boot.stage = .ended ↔ s.boot.stage = .ended := by
    simp only [State.tick]
    split
    · exact Iff.rfl
    · exact tickBoot_ended s.boot
  generalize s.tick = t at frame port boot
  refine ⟨by rw [frame], by rw [frame]; rfl, fun r' e => ⟨r', by rw [frame] at e; exact e, rfl, rfl, rfl, rfl⟩,
    by rw [frame], fun j' e => ⟨j', by rw [frame] at e; exact e, rfl, rfl, rfl⟩, fun who page limit e => ?_, fun c => ?_⟩
  · exact ⟨port who page limit e, fun r e => ⟨r, by rw [frame]; exact e, rfl, rfl, rfl, rfl⟩, by rw [frame]⟩
  · exact c.imp (fun c => by rw [frame] at c; exact c) fun n e => n (boot.mpr e)

theorem storeInFault_current (m : MapStore) : (storeInFault m).current = m.current := by
  unfold storeInFault
  cases m.job <;> rfl

theorem Untouched.enterFault (c : ErrorKind × Nat) (s : State) : Untouched s (s.enterFault c) := by
  have frame := State.enterFault_frame c s
  generalize s.enterFault c = t at frame
  rw [frame]
  refine ⟨rfl, rfl, nofun, storeInFault_current _, fun j' e => ?_, nofun, id⟩
  rw [show (storeInFault s.store).job = none from (storeInFault_job _).1] at e
  cases e

theorem Untouched.bootOver (s : State) : Untouched s s.bootOver :=
  .of_eq rfl rfl rfl rfl rfl rfl fun c => .inl (c.resolve_right fun n => n rfl)

theorem Untouched.expire (e : Expiry) (s : State) : Untouched s (s.expire e) := by
  cases e with
  | quiet i =>
    show Untouched s (s.quietExpires i)
    have record : (s.quietExpires i).ce.record = s.ce.record := State.placeStart_record _
    rw [State.quietExpires_frame]
    exact .of_same rfl record
  | age i =>
    show Untouched s (s.ageExpires i)
    have record : (s.ageExpires i).ce.record = s.ce.record := State.placeStart_record _
    rw [State.ageExpires_frame]
    exact .of_same rfl record
  | stall =>
    show Untouched s s.stallExpires
    rw [State.stallExpires_frame]
    exact .of_same rfl rfl
  | programLimit =>
    show Untouched s s.programTimesOut
    unfold State.programTimesOut
    split
    · exact .enterFault _ s
    · exact .refl s
  | ready => exact (Untouched.bootOver s).trans (.enterFault _ _)

theorem Untouched.startReady (clock : ∃ n, s.boot.stage = .clock n) : Untouched s s.startReady := by
  obtain ⟨n, clock⟩ := clock
  have before : s.inReset = true ∨ s.boot.stage ≠ .ended := .inr (by rw [clock]; nofun)
  unfold State.startReady
  split
  · exact ⟨rfl, rfl, fun r' e => ⟨r', e, rfl, rfl, rfl, rfl⟩, rfl, fun j' e => ⟨j', e, rfl, rfl, rfl⟩, nofun, fun _ => before⟩
  · exact .of_eq rfl rfl rfl rfl rfl rfl fun _ => before

theorem Untouched.loadPage {s : State} (before : s.boot.stage ≠ .ended) (c : Copy) (k : Nat) :
    Untouched s (s.loadPage c k) :=
  ⟨rfl, rfl, fun r' e => ⟨r', e, rfl, rfl, rfl, rfl⟩, rfl, fun j' e => ⟨j', e, rfl, rfl, rfl⟩, nofun,
    fun _ => .inr before⟩

theorem Untouched.mrdyHigh (res : ProgramResult) (s : State) : Untouched s (s.mrdyHigh res) := by
  unfold State.mrdyHigh State.endCutProgram
  split
  · rename_i stage
    rw [State.endProgramAt_frame]
    have cut : Untouched s { s with pnv := (s.endProgramAt wholeAddress res).pnv } := .of_same rfl rfl
    exact cut.trans (.loadPage (by rw [stage]; nofun) .a 0)
  · exact .refl s

/-- The link's commands leave records, targets, jobs and programs; SET_CONFIG can clear the spares-low report. -/
theorem Untouched.reply (c : Command) (args : List Byte) (s : State) : Untouched s (commandReply c args s).after := by
  by_cases reads : c ≠ .sync ∧ c ≠ .save ∧ c ≠ .rearm ∧ c ≠ .setConfig ∧ c ≠ .setRegion
  · rw [commandReply_after args s reads]
    exact .of_same rfl rfl
  · have change : ∀ s : State, Untouched s s.configChange := by
      intro s
      unfold State.configChange
      split
      · exact .of_eq rfl rfl rfl rfl rfl rfl id
      · exact .of_eq rfl rfl rfl rfl rfl rfl id
    cases c
    case sync =>
      simp only [commandReply, replySync]
      split
      · exact .refl s
      · simp only [answer]
        refine .of_same ?_ ?_
        · rw [State.placeStart_frame]
          split <;> rfl
        · rw [State.placeStart_record]
          split <;> rfl
    case save =>
      simp only [commandReply, replySave]
      split
      · exact .of_eq rfl rfl rfl rfl rfl rfl id
      · simp only [answer]
        rw [State.refreshFlush_frame]
        cases job : s.store.job with
        | none => exact .of_eq rfl rfl rfl rfl rfl rfl id
        | some j => exact .of_eq rfl rfl rfl rfl rfl rfl id
    case rearm =>
      simp only [commandReply, replyRearm]
      split
      · exact .refl s
      · simp only [answer]
        refine .of_same ?_ ?_
        · rw [State.refreshFlush_frame, State.placeStart_frame]; rfl
        · rw [State.refreshFlush_frame]
          exact State.placeStart_record _
    case setConfig =>
      simp only [commandReply, replySetConfig]
      split
      · exact .refl s
      · rename_i i _
        split
        · exact .refl s
        · split
          · exact .refl s
          · split
            · exact .refl s
            · refine Untouched.trans (t := s.setItem i (arg16 args 1)) ?_ (change _)
              cases i <;> exact .of_eq rfl rfl rfl rfl rfl rfl id
    case setRegion =>
      simp only [commandReply, replySetRegion]
      split
      · exact .refl s
      · split
        · split
          · refine Untouched.trans ?_ (change _)
            exact .of_same rfl rfl
          · exact .refl s
        · exact .refl s
    all_goals exact absurd (by decide) reads

theorem Untouched.takeEffect (c : Command) (args : List Byte) (s : State) : Untouched s (s.takeEffect c args) := by
  obtain ⟨f, e | ⟨-, e⟩⟩ := State.takeEffect_cases c args s <;> rw [e]
  · exact .of_same rfl rfl
  · exact (Untouched.reply c args s).trans (.of_same rfl rfl)

end Sys2Proof.Machine
end

section
/-! Every row keeps the laws of the remap map (O59). -/
namespace Sys2Proof.Machine

/-! ### The pages that the table names -/

/-- No entry's page has changed. -/
def samePages (t t' : SettleTable) : Prop := ∀ j : Index, t'.entries[j].page = t.entries[j].page

theorem samePages_refl (t : SettleTable) : samePages t t := fun _ => rfl

theorem samePages.trans {t t' t'' : SettleTable} (a : samePages t t') (b : samePages t' t'') : samePages t t'' :=
  fun j => (b j).trans (a j)

theorem samePages_updateEntry (t : SettleTable) (i : Index) {f : Entry → Entry} (same : ∀ e, (f e).page = e.page) :
    samePages t (updateEntry t i f) := by
  intro j
  by_cases e : j = i
  · subst e; rw [updateEntry_entries_self, same]
  · rw [updateEntry_entries_of_ne t f e]

theorem samePages_promote (t : SettleTable) (i : Index) : samePages t (promote i t) :=
  samePages_updateEntry t i (f := fun e => { e with state := .due }) fun _ => rfl

theorem samePages_promoteAll (is : List Index) (t : SettleTable) : samePages t (promoteAll is t) := by
  intro j
  rw [promoteAll_entries]
  split <;> rfl

theorem samePages_mapEntries {f : Entry → Entry} (same : ∀ e, (f e).page = e.page) (t : SettleTable) :
    samePages t (mapEntries f t) := fun j => by rw [mapEntries_entries, same]

theorem samePages_promoteIfThrough (p : PolicyRecord) (i : Index) (t : SettleTable) :
    samePages t (promoteIfThrough p i t) := by
  rcases promoteIfThrough_cases p i t with ⟨-, -, e⟩ | ⟨-, e⟩ <;> rw [e]
  · exact samePages_promote t i
  · exact samePages_refl t

theorem samePages_touchClean (i : Index) (t : SettleTable) : samePages t (touchClean i t) := by
  unfold touchClean
  split
  · exact samePages_refl t
  · exact samePages_refl t

theorem samePages_expiryActs (i : Index) (t : SettleTable) : samePages t (expiryActs i t) := by
  unfold expiryActs
  split
  · exact samePages_promote t i
  · exact samePages_updateEntry t i fun _ => rfl
  · exact samePages_refl t

theorem samePages_routeSuccess (mode : Mode) (i : Index) (t : SettleTable) : samePages t (routeSuccess mode i t) := by
  rcases routeSuccess_cases mode i t with ⟨-, e⟩ | ⟨-, ⟨-, e⟩ | ⟨-, e⟩⟩ <;> rw [e]
  · exact samePages_updateEntry t i fun _ => rfl
  · exact (samePages_updateEntry t i (f := clearCommitFlags) fun _ => rfl).trans (samePages_promote _ i)
  · exact samePages_updateEntry t i fun _ => rfl

theorem samePages_filled (t : SettleTable) (i : Index) (m : Page) : samePages t (updateEntry t i (filledEntry m)) :=
  samePages_updateEntry t i (filledEntry_page m)

theorem samePages_pinned (t : SettleTable) (i : Index) (c : OffsetSet) :
    samePages t (updateEntry t i (pinnedEntry c)) :=
  samePages_updateEntry t i (pinnedEntry_page c)

/-- A host write brings at most its own page into the table (R32). -/
theorem tableWrite_pages {budget page : Nat} {now : Stamp} {o : Offset} {b : Byte} {p : PolicyRecord}
    {t t' : SettleTable} {n : Counter} (takes : tableWrite budget now page o b p t = some (t', n)) (j : Index) :
    t'.entries[j].page = t.entries[j].page ∨ t'.entries[j].page = some page := by
  rcases tableWrite_cases takes with ⟨-, -, -, i, t1, slot, rfl⟩ | ⟨i, -, ⟨-, -, -, rfl⟩ | ⟨-, merges⟩⟩
  · have entries : t1.entries = t.entries := by
      rcases takeSlot_cases slot with ⟨-, -, rfl⟩ | ⟨-, -, entries, -⟩
      · rfl
      · exact entries
    rw [samePages_promoteIfThrough]
    by_cases e : j = i
    · subst e; right; rw [updateEntry_entries_self]; rfl
    · left; rw [updateEntry_entries_of_ne t1 _ e, entries]
  · left
    rw [samePages_promoteIfThrough]
    exact samePages_updateEntry { t with cleanList := t.cleanList.filter (· != i) } i (f := redirtiedEntry o b p now)
      (fun _ => rfl) j
  · left
    rcases merges with ⟨-, rfl⟩ | ⟨-, rfl⟩ | ⟨-, rfl⟩ | ⟨-, rfl⟩
    · rw [samePages_promoteIfThrough]
      exact samePages_updateEntry t i (f := fun e => restartQuiet p (putByte o b e)) (fun _ => rfl) j
    · exact samePages_updateEntry t i (f := fun e => restartQuiet p (putByte o b e)) (fun _ => rfl) j
    · exact samePages_updateEntry t i (fun e => (mergeCommitting_same o b p now e).2.1) j
    · exact samePages_updateEntry t i (f := putByte o b) (fun _ => rfl) j

/-! ### The laws taken apart -/

/-- The table's pages lie below Lcap (R17). -/
def PagesBelow (n : Nat) (t : SettleTable) : Prop := ∀ (i : Index) (p : Nat), t.entries[i].page = some p → p < n

theorem PagesBelow.of_same {n : Nat} {t t' : SettleTable} (h : PagesBelow n t) (same : samePages t t') :
    PagesBelow n t' := fun i p e => h i p ((same i).symm.trans e)

/-- A waiting write is in range (R67). -/
def WaitsBelow (n : Nat) (h : HostPort) : Prop := ∀ a d, waitingWrite h = some (a, d) → a.toNat / 64 < n

theorem WaitsBelow.of_none {n : Nat} {h : HostPort} (e : waitingWrite h = none) : WaitsBelow n h := by
  intro a d waits
  rw [e] at waits
  cases waits

/-- The commit's page lies below Lcap, and a trial spare is free (R82, R98). -/
def TrialFree (m : RemapUnit) (r : CommitRecord) : Prop :=
  r.page < m.capacity ∧
    (r.trial = true → ∃ n, r.target = .spare n ∧ n < m.spares ∧ ∀ x ∈ m.records, x.spare ≠ n)

theorem TrialFree.of_same {m m' : RemapUnit} {r r' : CommitRecord} (h : TrialFree m r) (map : sameMap m' m)
    (same : sameTarget r' r) : TrialFree m' r' := by
  obtain ⟨page, target, -, trial⟩ := same
  unfold TrialFree
  rw [map, page, target, trial]
  exact h

theorem RemapWf.of_same {msize : BitVec 2} {m m' : RemapUnit} (h : RemapWf msize m) (map : sameMap m' m) :
    RemapWf msize m' := by
  rw [map]
  exact h.setReport _

section
variable {s : State} (h : MapLaw s)
include h

theorem MapLaw.wf : RemapWf s.straps.msize s.remap :=
  ⟨h.capacity, h.ascending, h.bound, h.retired, h.remapped, h.distinct⟩

theorem MapLaw.unbuilt (c : s.inReset = true ∨ s.boot.stage ≠ .ended) : s.remap.built = false := (h.boot c).2

end

/-- The laws from their parts; what holds until the end of boot is the settle table's. -/
theorem MapLaw.of_parts {t : State} (law : TableLaw t) (wf : RemapWf t.straps.msize t.remap)
    (pages : PagesBelow t.remap.capacity t.table) (record : ∀ r, t.ce.record = some r → TrialFree t.remap r)
    (waits : WaitsBelow t.remap.capacity t.host)
    (unbuilt : t.inReset = true ∨ t.boot.stage ≠ .ended → t.remap.built = false) : MapLaw t :=
  ⟨wf.capacity, wf.ascending, wf.bound, wf.retired, wf.remapped, wf.distinct, pages, record, waits,
    fun c => ⟨law.boot c, unbuilt c⟩⟩

/-- The laws of the map where map, targets and jobs stay. -/
theorem MapLaw.untouched {s t : State} (h : MapLaw s) (law : TableLaw t) (u : Untouched s t)
    (pages : PagesBelow s.remap.capacity t.table) (waits : WaitsBelow s.remap.capacity t.host) : MapLaw t := by
  have capacity : t.remap.capacity = s.remap.capacity := by rw [u.map]
  have built : t.remap.built = s.remap.built := by rw [u.map]
  refine .of_parts law ?_ ?_ (fun r e => ?_) ?_ fun c => ?_
  · rw [u.straps]; exact h.wf.of_same u.map
  · rw [capacity]; exact pages
  · obtain ⟨r', e', same⟩ := u.record r e
    exact TrialFree.of_same (h.record r' e') u.map same
  · rw [capacity]; exact waits
  · rw [built]; exact h.unbuilt (u.boot c)

/-- The same, where the table's pages and the waiting write stay too. -/
theorem MapLaw.still {s t : State} (h : MapLaw s) (law : TableLaw t) (u : Untouched s t)
    (pages : samePages s.table t.table) (waits : waitingWrite t.host = none ∨ waitingWrite t.host = waitingWrite s.host) :
    MapLaw t := by
  refine h.untouched law u (PagesBelow.of_same h.pages pages) ?_
  rcases waits with none | same
  · exact .of_none none
  · intro a d e; exact h.waiting a d (same ▸ e)

/-! ### Host accesses -/

theorem State.inRange_iff (s : State) (a : HostAddr) : s.inRange a = true ↔ logicalPage a < s.remap.capacity := by
  simp [State.inRange]

/-- A write that the region unit and the table take: its page is the one that may come into the table, and no write
waits afterwards. -/
theorem State.takeResolvedWrite_pages {a : HostAddr} {d : Byte} {s t : State} {n : Nat}
    (takes : s.takeResolvedWrite a d = some t) (pages : PagesBelow n s.table) (inRange : logicalPage a < n) :
    PagesBelow n t.table ∧ waitingWrite t.host = none := by
  rcases State.takeResolvedWrite_cases a d s with ⟨-, e⟩ | ⟨-, ⟨r, write, e⟩ | ⟨-, e⟩⟩ <;> rw [e] at takes <;>
    cases takes
  · exact ⟨pages, rfl⟩
  · rw [State.placeStart_frame]
    refine ⟨fun i p named => ?_, rfl⟩
    rcases tableWrite_pages write i with same | new
    · exact pages i p (same.symm.trans named)
    · replace named : r.1.entries[i].page = some p := named
      rw [new] at named
      cases named
      exact inRange

/-- A write that has arrived or was held in BOOT is taken, or is in range and waits. -/
theorem State.takeWrite_getD_pages {a : HostAddr} {d : Byte} {s : State} {h : HostPort} {n : Nat}
    (capacity : s.remap.capacity = n) (pages : PagesBelow n s.table)
    (waits : ∀ a' d', waitingWrite h = some (a', d') → a' = a) :
    PagesBelow n ((s.takeWrite a d).getD (s.setHost h)).table ∧
      WaitsBelow n ((s.takeWrite a d).getD (s.setHost h)).host := by
  rcases State.takeWrite_cases a d s with ⟨-, e⟩ | ⟨inRange, e⟩ <;> rw [e]
  · exact ⟨pages, .of_none rfl⟩
  · rw [State.inRange_iff, capacity] at inRange
    cases takes : s.takeResolvedWrite a d with
    | none =>
      refine ⟨pages, fun a' d' e => ?_⟩
      rw [waits a' d' e]
      exact inRange
    | some t =>
      obtain ⟨pages, none⟩ := State.takeResolvedWrite_pages takes pages inRange
      exact ⟨pages, .of_none none⟩

theorem State.takeRead_getD_pages {a : HostAddr} {s : State} {h : HostPort} (waits : waitingWrite h = none) :
    samePages s.table ((s.takeRead a).getD (s.setHost h)).table ∧
      waitingWrite ((s.takeRead a).getD (s.setHost h)).host = none := by
  rcases State.takeRead_cases a s with ⟨-, e⟩ | ⟨-, ⟨i, byte, -, e⟩ | ⟨-, ⟨-, e⟩ | ⟨-, e⟩⟩⟩ <;> rw [e]
  · exact ⟨samePages_refl _, rfl⟩
  · exact ⟨samePages_touchClean i s.table, rfl⟩
  · exact ⟨samePages_refl _, rfl⟩
  · exact ⟨samePages_refl _, waits⟩

section
variable {s : State} (h : MapLaw s)
include h

theorem MapLaw.arriveWrite (a : HostAddr) (d : Byte) (law : TableLaw (s.arriveWrite a d)) : MapLaw (s.arriveWrite a d) := by
  have parts : PagesBelow s.remap.capacity (s.arriveWrite a d).table ∧
      WaitsBelow s.remap.capacity (s.arriveWrite a d).host := by
    unfold State.arriveWrite
    split
    · exact ⟨h.pages, .of_none rfl⟩
    · exact ⟨h.pages, .of_none rfl⟩
    · exact State.takeWrite_getD_pages rfl h.pages fun _ _ e => by cases e; rfl
  exact h.untouched law (.arriveWrite a d s) parts.1 parts.2

theorem MapLaw.arriveRead (a : HostAddr) (law : TableLaw (s.arriveRead a)) : MapLaw (s.arriveRead a) := by
  have parts : samePages s.table (s.arriveRead a).table ∧ waitingWrite (s.arriveRead a).host = none := by
    unfold State.arriveRead
    split
    · exact ⟨samePages_refl _, rfl⟩
    · exact State.takeRead_getD_pages rfl
  exact h.still law (.arriveRead a s) parts.1 (.inl parts.2)

theorem MapLaw.retakeWrite (law : TableLaw s.retakeWrite) : MapLaw s.retakeWrite := by
  have parts : PagesBelow s.remap.capacity s.retakeWrite.table ∧ WaitsBelow s.remap.capacity s.retakeWrite.host := by
    unfold State.retakeWrite
    split
    · exact ⟨h.pages, h.waiting⟩
    · rename_i a d waits
      cases takes : s.takeResolvedWrite a d with
      | none => exact ⟨h.pages, h.waiting⟩
      | some t =>
        obtain ⟨pages, none⟩ := State.takeResolvedWrite_pages takes h.pages (h.waiting a d waits)
        exact ⟨pages, .of_none none⟩
  exact h.untouched law (.retakeWrite s) parts.1 parts.2

theorem MapLaw.applyPressure (law : TableLaw s.applyPressure) : MapLaw s.applyPressure := by
  refine h.still law (.applyPressure s) ?_ (.inr (by rw [State.applyPressure_frame]))
  unfold State.applyPressure
  split
  · exact samePages_refl _
  · rw [State.placeStart_frame]
    exact samePages_promote _ _

end

/-! ### The commit engine's rows -/

/-- The grant of a claim that starts no commit and no program leaves map, targets, jobs, pages and waiting write. -/
theorem MapLaw.takeSnapshot {s : State} (h : MapLaw s) (before : TableLaw s) (law : TableLaw s.takeSnapshot) :
    MapLaw s.takeSnapshot := by
  have frame := State.takeSnapshot_frame s
  have parts : samePages s.table s.takeSnapshot.table ∧
      ∀ r, s.takeSnapshot.ce.record = some r → TrialFree s.remap r := by
    unfold State.takeSnapshot
    split
    · exact ⟨samePages_refl _, h.record⟩
    · rename_i i rest queue
      refine ⟨samePages_updateEntry s.table i fun _ => rfl, fun r e => ?_⟩
      cases e
      have due : s.table.entries[i].state = .due := (before.queue.2 i).mp (by rw [queue]; simp)
      obtain ⟨p, page⟩ := Option.isSome_iff_exists.mp (before.paged i (by rw [due]; decide))
      refine ⟨?_, nofun⟩
      show s.table.entries[i].page.getD 0 < s.remap.capacity
      rw [page]
      exact h.pages i p page
  generalize s.takeSnapshot = t at frame parts law
  rw [frame] at parts law ⊢
  exact .of_parts law h.wf (PagesBelow.of_same h.pages parts.1) parts.2 h.waiting h.unbuilt

theorem MapLaw.grantProgram {s : State} (h : MapLaw s) (law : TableLaw s.grantProgram) : MapLaw s.grantProgram := by
  have frame := State.grantProgram_frame s
  have parts : ∀ r, s.grantProgram.ce.record = some r → TrialFree s.remap r := by
    unfold State.grantProgram
    split
    · exact h.record
    · rename_i r record
      intro r' e
      cases e
      exact h.record r record
  generalize s.grantProgram = t at frame parts law
  rw [frame] at parts law ⊢
  exact .of_parts law h.wf h.pages parts h.waiting h.unbuilt

/-- What a verify match makes of the map: the REMAP change at a trial spare (R95). -/
def confirmed (r : CommitRecord) (m : RemapUnit) : RemapUnit :=
  match r.trial, r.target with
  | true, .spare n => remapChange r.page n m
  | _, _ => m

/-- What giving up the target makes of the map: the RETIRE change of a trial spare (R98, R99). -/
def givenUp (r : CommitRecord) (m : RemapUnit) : RemapUnit :=
  match r.trial, r.target with
  | true, .spare n => retireChange n m
  | _, _ => m

/-- A commit that is not at a trial spare: the map stays at both ends. -/
theorem confirmed_of_no_trial {r : CommitRecord} (h : ∀ n, r.trial = true → r.target = .spare n → False)
    (m : RemapUnit) : confirmed r m = m ∧ givenUp r m = m := by
  unfold confirmed givenUp
  split
  · rename_i n trial target; exact (h n trial target).elim
  · exact ⟨rfl, rfl⟩

theorem confirmed_of_trial {r : CommitRecord} {n : Nat} (trial : r.trial = true) (target : r.target = .spare n)
    (m : RemapUnit) : confirmed r m = remapChange r.page n m ∧ givenUp r m = retireChange n m := by
  simp only [confirmed, givenUp, trial, target, and_self]

theorem State.sparesLowTest_mapChange (s : State) :
    sameMap s.sparesLowTest.mapChange.remap s.remap ∧ s.sparesLowTest.mapChange.store.job = s.store.job ∧
      s.sparesLowTest.mapChange.store.current = s.store.current := by
  rw [State.mapChange_eq]
  have store : s.sparesLowTest.store = s.store := by unfold State.sparesLowTest; split <;> rfl
  refine ⟨?_, ?_⟩
  · show sameMap s.sparesLowTest.remap s.remap
    unfold State.sparesLowTest
    split <;> rfl
  · show s.sparesLowTest.mapChange.store.job = _ ∧ s.sparesLowTest.mapChange.store.current = _
    rw [← store]
    unfold State.mapChange
    split <;> exact ⟨rfl, rfl⟩

theorem State.verifyMatches_ends (r : CommitRecord) (s : State) :
    (s.verifyMatches r).ce.record = none ∧ sameMap (s.verifyMatches r).remap (confirmed r s.remap) ∧
      (s.verifyMatches r).store.job = s.store.job ∧ (s.verifyMatches r).store.current = s.store.current ∧
      samePages s.table (s.verifyMatches r).table := by
  have commit : ∀ u : State, (u.commitSucceeds r).ce.record = none ∧ samePages u.table (u.commitSucceeds r).table := by
    refine fun u => ⟨State.commitOver_record _, ?_⟩
    unfold State.commitSucceeds
    rw [State.commitOver_frame]
    exact samePages_routeSuccess u.mode r.entry u.table
  unfold State.verifyMatches
  split
  · rename_i n trial target
    rw [(confirmed_of_trial trial target s.remap).1]
    obtain ⟨map, job, current⟩ :=
      State.sparesLowTest_mapChange (((s.setRemap (remapChange r.page n s.remap)).raise .remap).count .remaps)
    obtain ⟨record, pages⟩ := commit (s.remapTo r.page n)
    refine ⟨record, ?_⟩
    rw [State.commitSucceeds_frame]
    refine ⟨map, job, current, ?_⟩
    have table : (s.remapTo r.page n).table = s.table := (congrArg State.table (State.remapTo_frame r.page n s) :)
    rw [table] at pages
    exact pages
  · rename_i no
    rw [(confirmed_of_no_trial no s.remap).1]
    obtain ⟨record, pages⟩ := commit s
    refine ⟨record, ?_⟩
    rw [State.commitSucceeds_frame]
    exact ⟨rfl, rfl, rfl, pages⟩

/-- How a verify mismatch ends: a retry, or the map without the target and a next spare or no record (R96, R98, R99). -/
theorem State.verifyMismatch_ends (r : CommitRecord) (s : State) :
    ((s.verifyMismatch r).ce.record = some r ∧ sameMap (s.verifyMismatch r).remap s.remap ∨
        sameMap (s.verifyMismatch r).remap (givenUp r s.remap) ∧
          ((s.verifyMismatch r).ce.record = none ∨
            ∃ n, allocate (s.verifyMismatch r).remap = some n ∧ (s.verifyMismatch r).ce.record = some (toTrial n r))) ∧
      (s.verifyMismatch r).store.job = s.store.job ∧ (s.verifyMismatch r).store.current = s.store.current ∧
      samePages s.table (s.verifyMismatch r).table := by
  have gives : sameMap ((s.count .verifyFails).giveUpTarget r).remap (givenUp r s.remap) ∧
      ((s.count .verifyFails).giveUpTarget r).store.job = s.store.job ∧
      ((s.count .verifyFails).giveUpTarget r).store.current = s.store.current ∧
      ((s.count .verifyFails).giveUpTarget r).table = s.table := by
    unfold State.giveUpTarget
    split
    · rename_i n trial target
      rw [(confirmed_of_trial trial target s.remap).2]
      obtain ⟨map, job, current⟩ :=
        State.sparesLowTest_mapChange ((s.count .verifyFails).setRemap (retireChange n s.remap))
      exact ⟨map, job, current, (congrArg State.table (State.retireSpare_frame n (s.count .verifyFails)) :)⟩
    · rename_i no
      rw [(confirmed_of_no_trial no s.remap).2]
      exact ⟨rfl, rfl, rfl, rfl⟩
  simp only [State.verifyMismatch]
  split
  · exact ⟨.inl ⟨rfl, rfl⟩, rfl, rfl, samePages_refl _⟩
  · generalize (s.count .verifyFails).giveUpTarget r = u at gives
    obtain ⟨map, job, current, table⟩ := gives
    split
    · rename_i n allocates
      exact ⟨.inr ⟨map, .inr ⟨n, allocates, rfl⟩⟩, job, current, table ▸ samePages_refl _⟩
    · have record := State.commitOver_record
        ((((u.raise .spout).offerUnordered [(.verify, r.page), (.spout, r.page)])).setTable
          (updateEntry ((u.raise .spout).offerUnordered [(.verify, r.page), (.spout, r.page)]).table r.entry
            (pinnedEntry r.changeSet)))
      refine ⟨.inr ⟨?_, .inl record⟩, ?_⟩
      · rw [State.commitPinned_frame, State.offerUnordered_frame]; exact map
      · have pages : (((u.raise .spout).offerUnordered [(.verify, r.page), (.spout, r.page)]).commitPinned r).table =
            updateEntry s.table r.entry (pinnedEntry r.changeSet) := by
          unfold State.commitPinned
          rw [State.commitOver_frame]
          show updateEntry ((u.raise .spout).offerUnordered _).table r.entry (pinnedEntry r.changeSet) = _
          rw [State.offerUnordered_frame]
          show updateEntry u.table r.entry (pinnedEntry r.changeSet) = _
          rw [table]
        rw [pages, State.commitPinned_frame, State.offerUnordered_frame]
        exact ⟨job, current, samePages_pinned _ _ _⟩

/-- How the end of a verify read can leave map, record, job, current copy and pages. -/
theorem State.verifyReadDone_ends (s : State) :
    s.verifyReadDone = s ∨
      ∃ r, s.ce.record = some r ∧ s.verifyReadDone.port = .idle ∧
        (s.verifyReadDone.ce.record = none ∧ sameMap s.verifyReadDone.remap (confirmed r s.remap) ∨
          s.verifyReadDone.ce.record = some r ∧ sameMap s.verifyReadDone.remap s.remap ∨
          sameMap s.verifyReadDone.remap (givenUp r s.remap) ∧
            (s.verifyReadDone.ce.record = none ∨
              ∃ n, allocate s.verifyReadDone.remap = some n ∧ s.verifyReadDone.ce.record = some (toTrial n r))) ∧
        s.verifyReadDone.store.job = s.store.job ∧ s.verifyReadDone.store.current = s.store.current ∧
        samePages s.table s.verifyReadDone.table := by
  unfold State.verifyReadDone State.verifyDone
  split
  · rename_i page r _ record
    refine .inr ⟨r, record, ?_⟩
    split
    · obtain ⟨none, map, rest⟩ := State.verifyMatches_ends r (s.setPort .idle)
      exact ⟨by rw [State.verifyMatches_frame]; rfl, .inl ⟨none, map⟩, rest⟩
    · obtain ⟨ends, rest⟩ := State.verifyMismatch_ends r (s.setPort .idle)
      exact ⟨by rw [State.verifyMismatch_frame]; rfl, .inr ends, rest⟩
  · exact .inl rfl

theorem RemapWf.confirmed {msize : BitVec 2} {m : RemapUnit} {r : CommitRecord} (h : RemapWf msize m)
    (free : TrialFree m r) : RemapWf msize (confirmed r m) := by
  unfold Machine.confirmed
  split
  · rename_i n trial target
    obtain ⟨n', target', below, fresh⟩ := free.2 trial
    rw [target] at target'
    cases target'
    exact h.remapChange free.1 below fresh
  · exact h

theorem RemapWf.givenUp {msize : BitVec 2} {m : RemapUnit} {r : CommitRecord} (h : RemapWf msize m)
    (free : TrialFree m r) : RemapWf msize (givenUp r m) := by
  unfold Machine.givenUp
  split
  · rename_i n trial target
    obtain ⟨n', target', below, fresh⟩ := free.2 trial
    rw [target] at target'
    cases target'
    exact h.retireChange below fresh
  · exact h

theorem confirmed_capacity (r : CommitRecord) (m : RemapUnit) : (confirmed r m).capacity = m.capacity := by
  unfold confirmed
  split <;> rfl

theorem givenUp_capacity (r : CommitRecord) (m : RemapUnit) :
    (givenUp r m).capacity = m.capacity ∧ (givenUp r m).spares = m.spares := by
  unfold givenUp
  split <;> exact ⟨rfl, rfl⟩

theorem MapLaw.verifyReadDone {s : State} (h : MapLaw s) (before : TableLaw s) (law : TableLaw s.verifyReadDone) :
    MapLaw s.verifyReadDone := by
  have frame := State.verifyReadDone_frame s
  rcases State.verifyReadDone_ends s with same | ⟨r, record, -, ends, -, -, pages⟩
  · rw [same]; exact h
  · have b := before.booted_of_record record
    have free : TrialFree s.remap r := h.record r record
    generalize s.verifyReadDone = t at frame law ends pages
    have straps : t.straps = s.straps := by rw [frame]
    have host : t.host = s.host := by rw [frame]
    have ready : ¬ (t.inReset = true ∨ t.boot.stage ≠ .ended) := by
      rw [frame]
      simp [b.1, b.2]
    have finish : t.remap.capacity = s.remap.capacity → RemapWf s.straps.msize t.remap →
        (∀ r, t.ce.record = some r → TrialFree t.remap r) → MapLaw t := by
      intro capacity wf trial
      refine .of_parts law (straps ▸ wf) ?_ trial ?_ fun c => absurd c ready
      · rw [capacity]; exact PagesBelow.of_same h.pages pages
      · rw [capacity, host]; exact h.waiting
    rcases ends with ⟨none, map⟩ | ⟨again, map⟩ | ⟨map, next⟩
    · refine finish ?_ ((h.wf.confirmed free).of_same map) fun r' e => ?_
      · rw [map]; exact confirmed_capacity r s.remap
      · rw [none] at e; cases e
    · refine finish (by rw [map]) (h.wf.of_same map) fun r' e => ?_
      rw [again] at e
      cases e
      exact free.of_same map ⟨rfl, rfl, rfl, rfl⟩
    · have capacity : t.remap.capacity = s.remap.capacity := by rw [map]; exact (givenUp_capacity r s.remap).1
      refine finish capacity ((h.wf.givenUp free).of_same map) fun r' e => ?_
      rcases next with none | ⟨n, allocates, next⟩
      · rw [none] at e; cases e
      · rw [next] at e
        cases e
        obtain ⟨below, fresh, -⟩ := allocate_eq_some_iff.mp allocates
        refine ⟨?_, fun _ => ⟨n, rfl, below, fresh⟩⟩
        rw [capacity]
        exact free.1

end Sys2Proof.Machine
end

section
/-! The laws of the remap map through every row (O59): the follow-on rows, the expiries, boot, the link. -/
namespace Sys2Proof.Machine

/-! ### FAULT, expiries, the tick -/

theorem State.hostInFault_waiting (s : State) :
    waitingWrite s.hostInFault.host = none ∨ waitingWrite s.hostInFault.host = waitingWrite s.host := by
  unfold State.hostInFault
  split
  · exact .inl rfl
  · exact .inl rfl
  · exact .inl rfl
  · exact .inr rfl

theorem State.enterFault_pages (c : ErrorKind × Nat) (s : State) : samePages s.table (s.enterFault c).table := by
  have told : ∀ u : State, u.table = s.table → samePages s.table (u.commitInFault.clearSyncMarks).table := by
    intro u same
    have pinned : samePages s.table u.commitInFault.table := by
      unfold State.commitInFault
      rw [← same]
      split
      · exact samePages_refl _
      · exact samePages_pinned _ _ _
    exact pinned.trans (samePages_mapEntries (f := fun e => { e with syncMark := false }) (fun _ => rfl) _)
  have told := told ((((s.offerUnordered (faultErrors c s)).faultFlags).setStore
    (storeInFault ((s.offerUnordered (faultErrors c s)).faultFlags).store)))
    (by show ((s.offerUnordered _).faultFlags).table = s.table; rw [State.faultFlags_frame, State.offerUnordered_frame])
  simp only [State.enterFault]
  generalize State.clearSyncMarks _ = u at told ⊢
  show samePages s.table u.hostInFault.table
  rw [State.hostInFault_frame]
  exact told

theorem State.enterFault_waiting (c : ErrorKind × Nat) (s : State) :
    waitingWrite (s.enterFault c).host = none ∨ waitingWrite (s.enterFault c).host = waitingWrite s.host := by
  have told : ∀ u : State, u.host = s.host → u.commitInFault.clearSyncMarks.host = s.host := by
    intro u same
    simp only [State.clearSyncMarks, State.setTable_host]
    rw [State.commitInFault_frame]
    exact same
  have told := told ((((s.offerUnordered (faultErrors c s)).faultFlags).setStore
    (storeInFault ((s.offerUnordered (faultErrors c s)).faultFlags).store)))
    (by show ((s.offerUnordered _).faultFlags).host = s.host; rw [State.faultFlags_frame, State.offerUnordered_frame])
  simp only [State.enterFault]
  generalize State.clearSyncMarks _ = u at told ⊢
  rw [← told]
  exact State.hostInFault_waiting u

/-- SELECT ends in FAULT with a size mismatch, or in BUILD or FRESH and the end of boot (R161 to R165). -/
theorem State.selectAndBuild_cases (s : State) :
    (∃ e, s.selectAndBuild = ((s.bootOver).raiseLoss).enterFault e) ∨
      ∃ u : State, s.selectAndBuild = u.endBoot ∧ u.table = s.table ∧ u.ce = s.ce ∧ u.host = s.host ∧
        u.inReset = s.inReset ∧ u.store.job = none ∧ RemapWf u.straps.msize u.remap := by
  simp only [State.selectAndBuild]
  split
  · exact .inl ⟨_, rfl⟩
  · split
    · exact .inl ⟨_, rfl⟩
    · split
      · rename_i select
        exact .inr ⟨_, rfl, rfl, rfl, rfl, rfl, rfl,
          remapWf_of_contentsValid (contentsValid_of_copyValid (selectCopy_valid select))⟩
      · rename_i select
        exact .inr ⟨_, rfl, rfl, rfl, rfl, rfl, rfl,
          remapWf_of_contentsValid (contentsValid_of_copyValid (selectCopy_valid select))⟩
      · exact .inr ⟨_, rfl, rfl, rfl, rfl, rfl, rfl, remapWf_fresh _ _⟩

section
variable {s : State} (h : MapLaw s)
include h

theorem MapLaw.enterFault (c : ErrorKind × Nat) (law : TableLaw (s.enterFault c)) : MapLaw (s.enterFault c) :=
  h.still law (.enterFault c s) (State.enterFault_pages c s) (State.enterFault_waiting c s)

theorem MapLaw.expire (e : Expiry) (law : TableLaw (s.expire e)) : MapLaw (s.expire e) := by
  have entry : ∀ (i : Index) (f : Entry → Entry), (∀ e, (f e).page = e.page) →
      samePages s.table (expiryActs i (updateEntry s.table i f)) :=
    fun i f same => (samePages_updateEntry s.table i same).trans (samePages_expiryActs i _)
  cases e with
  | quiet i =>
    refine h.still law (.expire _ s) ?_ (.inr ?_)
    · show samePages s.table (s.quietExpires i).table
      unfold State.quietExpires
      rw [State.placeStart_frame]
      exact entry i _ fun _ => rfl
    · show waitingWrite (s.quietExpires i).host = waitingWrite s.host
      rw [State.quietExpires_frame]
  | age i =>
    refine h.still law (.expire _ s) ?_ (.inr ?_)
    · show samePages s.table (s.ageExpires i).table
      unfold State.ageExpires
      rw [State.placeStart_frame]
      exact entry i _ fun _ => rfl
    · show waitingWrite (s.ageExpires i).host = waitingWrite s.host
      rw [State.ageExpires_frame]
  | stall =>
    refine h.still law (.expire _ s) ?_ ?_
    · show samePages s.table s.stallExpires.table
      rw [State.stallExpires_frame]
      exact samePages_refl _
    · show waitingWrite s.stallExpires.host = none ∨ waitingWrite s.stallExpires.host = waitingWrite s.host
      unfold State.stallExpires
      split
      · exact .inr rfl
      · split
        · exact .inl rfl
        · exact .inl rfl
  | programLimit =>
    have timesOut : MapLaw s.programTimesOut := by
      have law : TableLaw s.programTimesOut := law
      unfold State.programTimesOut at law ⊢
      split
      · rename_i port
        rw [port] at law
        exact h.enterFault _ law
      · exact h
    exact timesOut
  | ready =>
    have law : TableLaw (s.bootOver.enterFault (.memtimeout, 0)) := law
    exact h.still law ((Untouched.bootOver s).trans (.enterFault _ _)) (State.enterFault_pages _ s.bootOver)
      (State.enterFault_waiting _ s.bootOver)

theorem MapLaw.tick (law : TableLaw s.tick) : MapLaw s.tick := by
  refine h.still law (.tick s) ?_ (.inr ?_)
  · simp only [State.tick]
    split
    · exact samePages_refl _
    · exact samePages_mapEntries (f := tickEntry) (fun _ => rfl) s.table
  · rw [State.tick_frame]
    exact tickStall_waiting s.host

/-! ### The follow-on rows -/

theorem MapLaw.follow (before : TableLaw s) {f : FollowOn} (due : s.due = some f) (law : TableLaw (s.follow f)) :
    MapLaw (s.follow f) := by
  obtain ⟨-, spec⟩ := State.due_spec due
  cases f
  case clockStageEnd =>
    have clock : s.boot.stage = .clock 0 := by simpa [clockStageEndDue] using spec
    refine h.still law (.startReady ⟨0, clock⟩) ?_ (.inr ?_)
    · show samePages s.table s.startReady.table
      rw [State.startReady_frame]; exact samePages_refl _
    · show waitingWrite s.startReady.host = waitingWrite s.host
      rw [State.startReady_frame]
  case syncComplete => exact h.still law (.of_same rfl rfl) (samePages_refl _) (.inr rfl)
  case saveComplete =>
    have saves : MapLaw s.finishSave := by
      have law : TableLaw s.finishSave := law
      unfold State.finishSave at law ⊢
      split
      · exact h.still (by simpa [*] using law) (.of_eq rfl rfl rfl rfl rfl rfl id) (samePages_refl _) (.inr rfl)
      · exact h.still (by simpa [*] using law) (.of_eq rfl rfl rfl rfl rfl rfl id) (samePages_refl _) (.inr rfl)
    exact saves
  case persistJobStart =>
    exact .of_parts law h.wf h.pages h.record h.waiting h.unbuilt
  case waitingWriteTakenAgain => exact h.retakeWrite law
  case pressure => exact h.applyPressure law
  case byteReadGrant =>
    have grants : MapLaw s.grantByteRead := by
      have law : TableLaw s.grantByteRead := law
      unfold State.grantByteRead at law ⊢
      split
      · exact h
      · rename_i a read
        rw [read] at law
        obtain ⟨p, pend, access, -⟩ := waitingRead_eq_some read
        refine .of_parts law h.wf h.pages h.record (.of_none ?_) h.unbuilt
        simp [State.setWait, waitingWrite, pend, access]
    exact grants
  case mapStoreStepGrant =>
    have grants : MapLaw s.grantMapStep := by
      have law : TableLaw s.grantMapStep := law
      rw [State.grantMapStep_frame] at law ⊢
      exact .of_parts law h.wf h.pages h.record h.waiting h.unbuilt
    exact grants
  case snapshot => exact h.takeSnapshot before law
  case programClaimGrant => exact h.grantProgram law
  case verifyClaimGrant =>
    have grants : MapLaw s.grantVerify := by
      have law : TableLaw s.grantVerify := law
      have record : s.grantVerify.ce.record = s.ce.record := by unfold State.grantVerify; split <;> rfl
      rw [State.grantVerify_frame] at law ⊢
      exact .of_parts law h.wf h.pages (fun r e => h.record r (record.symm.trans e)) h.waiting h.unbuilt
    exact grants
  case flushDone => exact h.still law (.of_same rfl rfl) (samePages_refl _) (.inr rfl)

/-! ### The memory port's rows -/

theorem MapLaw.fillReadDone (law : TableLaw s.fillReadDone) : MapLaw s.fillReadDone := by
  refine h.still law (.fillReadDone s) ?_ (.inr (by rw [State.fillReadDone_frame]))
  unfold State.fillReadDone
  split
  · rename_i page r _ _
    have filled := samePages_filled s.table r.entry (s.readPage page)
    simp only [State.fillDone]
    show samePages s.table _
    generalize eq : updateEntry (s.setPort .idle).table r.entry (filledEntry (s.readPage page)) = t
    rw [show updateEntry s.table r.entry (filledEntry (s.readPage page)) = t from eq] at filled
    split
    · unfold State.commitSucceeds
      rw [State.commitOver_frame]
      exact filled.trans (samePages_routeSuccess _ _ _)
    · exact filled
  · exact samePages_refl _

theorem MapLaw.programDone (res : ProgramResult) (law : TableLaw (s.programDone res)) : MapLaw (s.programDone res) := by
  refine h.still law (.programDone res s) ?_ (.inr (by rw [State.programDone_frame]))
  rw [State.programDone_frame]
  exact samePages_refl _

theorem MapLaw.hostByteDone (law : TableLaw s.hostByteDone) : MapLaw s.hostByteDone := by
  refine h.still law (.hostByteDone s) ?_ ?_
  · rw [State.hostByteDone_frame]; exact samePages_refl _
  · unfold State.hostByteDone State.byteReadDone
    split
    · split
      · exact .inl rfl
      · exact .inr rfl
    · exact .inr rfl

theorem MapLaw.mapVerifyReadDone (law : TableLaw s.mapVerifyReadDone) : MapLaw s.mapVerifyReadDone := by
  rw [State.mapVerifyReadDone_frame] at law ⊢
  exact .of_parts law h.wf h.pages h.record h.waiting h.unbuilt

/-! ### Boot -/

omit h in
theorem State.takeHeld_pages {u : State} {n : Nat} (capacity : u.remap.capacity = n) (pages : PagesBelow n u.table)
    (waits : waitingWrite u.host = none) : PagesBelow n u.takeHeld.table ∧ WaitsBelow n u.takeHeld.host := by
  unfold State.takeHeld
  split
  · exact ⟨pages, .of_none waits⟩
  · rename_i p pend
    split
    · rename_i d access
      split
      · exact ⟨pages, .of_none rfl⟩
      · refine State.takeWrite_getD_pages capacity pages fun a' d' e => ?_
        simp only [pend, Option.map_some, waitingWrite, access, Option.some.injEq, Prod.mk.injEq] at e
        exact e.1.symm
    · rename_i access
      have parts := State.takeRead_getD_pages (a := p.addr) (s := u)
        (h := { u.host with pend := u.host.pend.map fun p => { p with wait := .claim } })
        (by simp [pend, waitingWrite, access])
      exact ⟨pages.of_same parts.1, .of_none parts.2⟩

omit h in
/-- The end of boot with a map just built: the table is empty and no commit is in progress. -/
theorem MapLaw.endBoot {u : State} (law : TableLaw u.endBoot) (wf : RemapWf u.straps.msize u.remap)
    (pages : ∀ i : Index, u.table.entries[i].page = none) (record : u.ce.record = none)
    (waits : waitingWrite u.host = none) (up : u.inReset = false) : MapLaw u.endBoot := by
  have frame := State.endBoot_frame u
  have below : PagesBelow u.remap.capacity u.table := fun i p e => by rw [pages i] at e; cases e
  have parts : PagesBelow u.remap.capacity u.endBoot.table ∧ WaitsBelow u.remap.capacity u.endBoot.host ∧
      u.endBoot.ce.record = none ∧ u.endBoot.boot.stage = .ended := by
    have held : ∀ v : State, v.remap = u.remap → v.table = u.table → v.host = u.host → v.ce = u.ce →
        v.boot.stage = .ended →
        PagesBelow u.remap.capacity v.takeHeld.table ∧ WaitsBelow u.remap.capacity v.takeHeld.host ∧
          v.takeHeld.ce.record = none ∧ v.takeHeld.boot.stage = .ended := by
      intro v map table host ce ended
      obtain ⟨p, w⟩ := State.takeHeld_pages (u := v) (n := u.remap.capacity) (by rw [map])
        (by rw [table]; exact below) (by rw [host]; exact waits)
      exact ⟨p, w, by rw [State.takeHeld_record, ce]; exact record, by rw [State.takeHeld_frame]; exact ended⟩
    simp only [State.endBoot]
    rw [State.raiseLoss_frame]
    split
    · exact held _ rfl rfl rfl rfl rfl
    · exact held _ rfl rfl rfl rfl rfl
  generalize u.endBoot = t at frame law parts
  obtain ⟨table, host, none, ended⟩ := parts
  have map : t.remap = u.remap := by rw [frame]
  refine .of_parts law (by rw [frame]; exact wf) (by rw [map]; exact table) (fun r e => ?_) (by rw [map]; exact host)
    fun c => ?_
  · rw [none] at e; cases e
  · rcases c with reset | running
    · rw [frame] at reset
      rw [show u.inReset = true from reset] at up
      cases up
    · exact absurd ended running

theorem MapLaw.selectAndBuild (b : BootLaw s) (before : TableLaw s) (up : s.inReset = false)
    (law : TableLaw s.selectAndBuild) : MapLaw s.selectAndBuild := by
  have pages : ∀ i : Index, s.table.entries[i].page = none := fun i => by rw [before.free i (b.free i)]; rfl
  have faults : ∀ e, TableLaw (((s.bootOver).raiseLoss).enterFault e) →
      MapLaw (((s.bootOver).raiseLoss).enterFault e) := by
    intro e law
    have lost : Untouched s s.bootOver.raiseLoss := by
      rw [State.raiseLoss_frame]
      exact (Untouched.bootOver s).trans (.of_same rfl rfl)
    have table : s.bootOver.raiseLoss.table = s.table := by rw [State.raiseLoss_frame]; rfl
    have host : s.bootOver.raiseLoss.host = s.host := by rw [State.raiseLoss_frame]; rfl
    generalize s.bootOver.raiseLoss = u at lost table host law ⊢
    exact h.still law (lost.trans (.enterFault e u)) (table ▸ State.enterFault_pages e u)
      (host ▸ State.enterFault_waiting e u)
  rcases State.selectAndBuild_cases s with ⟨e, eq⟩ | ⟨u, eq, table, ce, host, reset, -, wf⟩ <;> rw [eq] at law ⊢
  · exact faults e law
  · refine .endBoot law wf (fun i => ?_) ?_ ?_ (reset.trans up)
    · rw [table]; exact pages i
    · rw [ce]; exact b.record
    · rw [host]; exact b.host

theorem MapLaw.loadReadDone (before : TableLaw s) (up : s.inReset = false) (law : TableLaw s.loadReadDone) :
    MapLaw s.loadReadDone := by
  unfold State.loadReadDone at law ⊢
  split
  · rename_i page c k port stage
    have b := before.bootLaw_of_stage (by rw [stage]; nofun)
    have added : BootLaw (s.setBoot (addLoaded c (s.readPage page) s.boot)) := b.transfer rfl rfl rfl rfl rfl b.host
    have running : (addLoaded c (s.readPage page) s.boot).stage ≠ .ended := by
      cases c <;> (show s.boot.stage ≠ .ended; rw [stage]; nofun)
    have table : TableLaw (s.setBoot (addLoaded c (s.readPage page) s.boot)) :=
      before.transfer rfl rfl rfl rfl fun _ => added
    have map : MapLaw (s.setBoot (addLoaded c (s.readPage page) s.boot)) :=
      .of_parts table h.wf h.pages h.record h.waiting fun _ => h.unbuilt (.inr (by rw [stage]; nofun))
    rw [port, stage] at law
    simp only [State.pageLoaded] at law ⊢
    generalize addLoaded c (s.readPage page) s.boot = boot at added running table map law ⊢
    split
    · rename_i more
      rw [if_pos more] at law
      exact map.still law (.loadPage running _ _) (samePages_refl _) (.inr rfl)
    · rename_i whole
      rw [if_neg whole] at law
      cases c with
      | a => exact map.still law (.loadPage running _ _) (samePages_refl _) (.inr rfl)
      | b => exact map.selectAndBuild added table up law
  · exact h

theorem MapLaw.mrdyHigh (res : ProgramResult) (law : TableLaw (s.mrdyHigh res)) : MapLaw (s.mrdyHigh res) := by
  refine h.still law (.mrdyHigh res s) ?_ (.inr (by rw [State.mrdyHigh_frame]))
  rw [State.mrdyHigh_frame]
  exact samePages_refl _

/-! ### Hold-up and the link -/

theorem MapLaw.enterHoldup (law : TableLaw s.enterHoldup) : MapLaw s.enterHoldup := by
  refine h.still law (.enterHoldup s) ?_ ?_
  · rw [State.enterHoldup_frame]
    exact samePages_promoteAll _ _
  · simp only [State.enterHoldup]
    rw [State.placeStart_frame]
    split
    · exact .inl rfl
    · exact .inr rfl

omit h in
theorem commandReply_pages (c : Command) (args : List Byte) (s : State) :
    samePages s.table (commandReply c args s).after.table := by
  by_cases reads : c ≠ .sync ∧ c ≠ .save ∧ c ≠ .rearm ∧ c ≠ .setConfig ∧ c ≠ .setRegion
  · rw [commandReply_after args s reads]
    exact samePages_refl _
  · cases c
    case sync =>
      have marks : samePages s.table (syncTable s.table) :=
        (samePages_mapEntries (fun e => (syncMark_same e).2.1) s.table).trans (samePages_promoteAll _ _)
      simp only [commandReply, replySync]
      generalize syncTable s.table = t at marks ⊢
      split
      · exact samePages_refl _
      · simp only [answer]
        rw [State.placeStart_frame]
        split <;> exact marks
    case save =>
      simp only [commandReply, replySave]
      split
      · exact samePages_refl _
      · simp only [answer]
        rw [State.refreshFlush_frame]
        exact samePages_refl _
    case rearm =>
      simp only [commandReply, replyRearm]
      split
      · exact samePages_refl _
      · simp only [answer]
        rw [State.refreshFlush_frame, State.placeStart_frame]
        exact samePages_promoteAll _ _
    case setConfig =>
      simp only [commandReply, replySetConfig]
      split
      · exact samePages_refl _
      · rename_i i _
        split
        · exact samePages_refl _
        · split
          · exact samePages_refl _
          · split
            · exact samePages_refl _
            · simp only [answer]
              rw [State.configChange_eq]
              cases i <;> exact samePages_refl _
    case setRegion =>
      simp only [commandReply, replySetRegion]
      split
      · exact samePages_refl _
      · split
        · split
          · simp only [answer]
            rw [State.configChange_eq]
            exact samePages_refl _
          · exact samePages_refl _
        · exact samePages_refl _
    all_goals exact absurd (by decide) reads

theorem MapLaw.takeEffect (c : Command) (args : List Byte) (law : TableLaw (s.takeEffect c args)) :
    MapLaw (s.takeEffect c args) := by
  refine h.still law (.takeEffect c args s) ?_ (.inr (by rw [State.takeEffect_frame]))
  obtain ⟨f, e | ⟨-, e⟩⟩ := State.takeEffect_cases c args s <;> rw [e]
  · exact samePages_refl _
  · exact commandReply_pages c args s

end

/-! ### All rows -/

theorem mapLaw_resetBlocks (e : EventUnit) (s : State) : MapLaw (s.resetBlocks e) := by
  refine .of_parts (tableLaw_resetBlocks e s) (remapWf_reset _) (fun i p e => ?_) nofun (.of_none rfl) fun _ => rfl
  replace e : SettleTable.reset.entries[i].page = some p := e
  rw [reset_entries] at e
  cases e

theorem MapLaw.release {s : State} (h : MapLaw s) (reset : s.inReset = true) (m p : BitVec 2)
    (law : TableLaw (s.release m p)) : MapLaw (s.release m p) := by
  have unbuilt := h.unbuilt (.inl reset)
  have wf : RemapWf m s.remap :=
    ⟨.inr (h.capacity.resolve_left fun built => by rw [unbuilt] at built; cases built.1), h.ascending, h.bound, h.retired,
      h.remapped, h.distinct⟩
  exact .of_parts law wf h.pages h.record h.waiting fun _ => unbuilt

/-- The laws of table and map together. -/
def TablesLaw (s : State) : Prop := TableLaw s ∧ MapLaw s

theorem MapLaw.quiet {s t : State} (h : MapLaw s) (law : TableLaw t) (u : Untouched s t) (table : t.table = s.table)
    (waits : waitingWrite t.host = waitingWrite s.host) : MapLaw t :=
  h.still law u (table ▸ samePages_refl _) (.inr waits)

/-- Every row keeps the laws of table and map. -/
theorem keeps_tablesLaw (c : Instr) : Keeps c TablesLaw := by
  have k := keeps_tableLaw c
  exact {
    follow := fun f s h due => ⟨k.follow f s h.1 due, h.2.follow h.1 due (k.follow f s h.1 due)⟩
    expire := fun e s row h up waits =>
      ⟨k.expire e s row h.1 up waits, h.2.expire e (k.expire e s row h.1 up waits)⟩
    tick := fun row s h up => ⟨k.tick row s h.1 up, h.2.tick (k.tick row s h.1 up)⟩
    powerOn := fun _ s _ => ⟨tableLaw_resetBlocks _ s, mapLaw_resetBlocks _ s⟩
    rst := fun _ s _ => ⟨tableLaw_resetBlocks _ s, mapLaw_resetBlocks _ s⟩
    release := fun m p _ _ h reset => ⟨h.1.release reset m p, h.2.release reset m p (h.1.release reset m p)⟩
    host := fun p s h pend =>
      ⟨k.host p s h.1 pend, h.2.quiet (k.host p s h.1 pend) (.of_same rfl rfl) rfl (waitingWrite_congr pend)⟩
    pfw := fun v s h => ⟨k.pfw v s h.1, h.2.quiet (k.pfw v s h.1) (.of_same rfl rfl) rfl rfl⟩
    frame := fun lcs f s h => ⟨k.frame lcs f s h.1, h.2.quiet (k.frame lcs f s h.1) (.of_same rfl rfl) rfl rfl⟩
    arriveWrite := fun a d _ _ h _ => ⟨h.1.arriveWrite a d, h.2.arriveWrite a d (h.1.arriveWrite a d)⟩
    arriveRead := fun a _ _ h _ => ⟨h.1.arriveRead a, h.2.arriveRead a (h.1.arriveRead a)⟩
    fill := fun _ _ h _ => ⟨h.1.fillReadDone, h.2.fillReadDone h.1.fillReadDone⟩
    program := fun r _ _ h _ => ⟨h.1.programDone r, h.2.programDone r (h.1.programDone r)⟩
    verify := fun _ _ h _ => ⟨h.1.verifyReadDone, h.2.verifyReadDone h.1 h.1.verifyReadDone⟩
    hostByte := fun _ _ h _ => ⟨h.1.hostByteDone, h.2.hostByteDone h.1.hostByteDone⟩
    mapVerify := fun _ _ h _ => ⟨h.1.mapVerifyReadDone, h.2.mapVerifyReadDone h.1.mapVerifyReadDone⟩
    mrdy := fun r _ _ h _ => ⟨h.1.mrdyHigh r, h.2.mrdyHigh r (h.1.mrdyHigh r)⟩
    load := fun _ _ h up => ⟨h.1.loadReadDone up, h.2.loadReadDone h.1 up (h.1.loadReadDone up)⟩
    enterHoldup := fun _ _ h _ run => ⟨h.1.enterHoldup run, h.2.enterHoldup (h.1.enterHoldup run)⟩
    leaveHoldup := fun _ _ h _ holdup =>
      ⟨h.1.leaveHoldup holdup, h.2.quiet (h.1.leaveHoldup holdup) (.of_same rfl rfl) rfl rfl⟩
    command := fun c args _ _ h _ => ⟨h.1.takeEffect c args, h.2.takeEffect c args (h.1.takeEffect c args)⟩ }

theorem TablesLaw.setPending {s : State} (h : TablesLaw s) (q : List Instr) : TablesLaw (s.setPending q) := by
  have law : TableLaw (s.setPending q) := h.1.of_same rfl rfl
  exact ⟨law, h.2.quiet law (.of_same rfl rfl) rfl rfl⟩

/-- Settles O59: every row keeps the laws of table and map together, and the queue is no part of them. -/
theorem everyStepKeepsTheRemapMapLaws : Obligations.EveryStepKeepsTheRemapMapLaws :=
  fun _ _ table map run =>
    (step_keeps (P := TablesLaw) (fun q _ h => TablesLaw.setPending h q) keeps_tablesLaw ⟨table, map⟩ run).2

end Sys2Proof.Machine
end

section
/-! No page of the current map copy, no RETIRED spare and no home page of a remapped page is programmed (O60). -/
namespace Sys2Proof.Machine

/-! ### The remaining rows that leave targets, jobs and programs -/

theorem Untouched.grantByteRead (s : State) : Untouched s s.grantByteRead := by
  unfold State.grantByteRead
  split
  · exact .refl s
  · rename_i a _
    exact Untouched.trans (t := s.setWait .granted) (.of_same rfl rfl) (.setPort nofun)

theorem Untouched.grantVerify (s : State) : Untouched s s.grantVerify := by
  unfold State.grantVerify
  split
  · exact .refl s
  · have verifies : Untouched s (s.setCe { s.ce with stage := .verifying }) := .of_same rfl rfl
    exact verifies.trans (.setPort nofun)

theorem Untouched.finishSave (s : State) : Untouched s s.finishSave := by
  unfold State.finishSave
  split <;> exact .of_eq rfl rfl rfl rfl rfl rfl id

/-- The page loader goes on, or boot ends in FAULT, or with a map just built (R159 to R165). -/
theorem State.loadReadDone_cases {s : State} (b : s.boot.stage ≠ .ended → BootLaw s) :
    Untouched s s.loadReadDone ∨
      (s.loadReadDone.store.job = none ∧ s.loadReadDone.ce.record = none ∧ s.loadReadDone.port = .idle) := by
  unfold State.loadReadDone
  split
  · rename_i page c k port stage
    have running : (addLoaded c (s.readPage page) s.boot).stage ≠ .ended := by
      cases c <;> (show s.boot.stage ≠ .ended; rw [stage]; nofun)
    have before : s.boot.stage ≠ .ended := by rw [stage]; nofun
    have add : Untouched s (s.setBoot (addLoaded c (s.readPage page) s.boot)) :=
      .of_eq rfl rfl rfl rfl rfl rfl fun _ => .inr before
    have record : (s.setBoot (addLoaded c (s.readPage page) s.boot)).ce.record = none := (b before).record
    simp only [State.pageLoaded]
    generalize addLoaded c (s.readPage page) s.boot = boot at add running record ⊢
    split
    · exact .inl (add.trans (.loadPage running _ _))
    · cases c with
      | a => exact .inl (add.trans (.loadPage running _ _))
      | b =>
        generalize s.setBoot boot = v at add record ⊢
        show Untouched s v.selectAndBuild ∨ _
        rcases State.selectAndBuild_cases v with ⟨e, eq⟩ | ⟨u, eq, -, ce, -, -, job, -⟩ <;> rw [eq]
        · have lost : Untouched v v.bootOver.raiseLoss := by
            rw [State.raiseLoss_frame]
            exact (Untouched.bootOver v).trans (.of_same rfl rfl)
          exact .inl ((add.trans lost).trans (.enterFault e _))
        · refine .inr ⟨?_, ?_, ?_⟩
          · rw [State.endBoot_frame]; exact job
          · rw [← record, ← ce]
            simp only [State.endBoot]
            rw [State.takeHeld_record, State.raiseLoss_frame]
            split <;> rfl
          · simp only [State.endBoot]
            rw [State.takeHeld_frame, State.raiseLoss_frame]
            split <;> rfl
  · exact .inl (.refl s)

/-! ### The map store's side (R145, R152) -/

theorem ascending_length_from {l : List Nat} {a n : Nat} (room : a ≤ n) (ascending : l.Pairwise (· < ·))
    (within : ∀ x ∈ l, a ≤ x ∧ x < n) : l.length + a ≤ n := by
  induction l generalizing a with
  | nil => simpa using room
  | cons x rest ih =>
    obtain ⟨least, ascending⟩ := List.pairwise_cons.mp ascending
    obtain ⟨above, below⟩ := within x List.mem_cons_self
    have tail := ih (a := x + 1) below ascending fun y mem => ⟨least y mem, (within y (List.mem_cons_of_mem _ mem)).2⟩
    rw [List.length_cons]
    omega

theorem ascending_length {l : List Nat} {n : Nat} (ascending : l.Pairwise (· < ·)) (below : ∀ x ∈ l, x < n) :
    l.length ≤ n := ascending_length_from (Nat.zero_le n) ascending fun x mem => ⟨Nat.zero_le x, below x mem⟩

/-- At most one record for each spare, so at most 256 (R4, R6). -/
theorem MapLaw.records_le {s : State} (h : MapLaw s) : s.remap.records.length ≤ 256 := by
  have count : s.remap.records.length ≤ s.remap.spares := by
    have := ascending_length h.ascending (n := s.remap.spares) fun x mem => by
      obtain ⟨m, m_mem, rfl⟩ := List.mem_map.mp mem
      exact h.bound m m_mem
    simpa using this
  rcases h.capacity with ⟨-, valid, -⟩ | ⟨-, none, -⟩
  · simp only [sparesValid, Bool.or_eq_true, beq_iff_eq] at valid
    omega
  · omega

theorem copyPages_length (m : StoredMap) : (copyPages m).length = usedPages m.records.length + 1 := by
  simp [copyPages, recordPages]

theorem copyBase_cases (c : Copy) : c = .a ∧ copyBase c = 0 ∨ c = .b ∧ copyBase c = 17 := by
  cases c
  · exact .inl ⟨rfl, rfl⟩
  · exact .inr ⟨rfl, rfl⟩

theorem jobTarget_not_current (m : MapStore) : m.current ≠ some (jobTarget m) := by
  unfold jobTarget
  split
  · rename_i c current
    rw [current]
    cases c <;> decide
  · rename_i current
    rw [current]
    nofun

/-- What a job keeps: its target is not the current copy, and its page lies in its image of at most 17 pages. -/
def JobWf (current : Option Copy) (j : PersistJob) : Prop :=
  current ≠ some j.target ∧ j.page < j.image.length ∧ j.image.length ≤ 17

theorem JobWf.of_place {current : Option Copy} {j j' : PersistJob} (h : JobWf current j) (same : samePlace j' j) :
    JobWf current j' := by
  obtain ⟨target, page, image⟩ := same
  unfold JobWf
  rw [target, page, image]
  exact h

section
variable {s : State} (h : PersistLaw s)
include h

theorem PersistLaw.untouched {t : State} (law : TableLaw t) (u : Untouched s t) : PersistLaw t where
  target j' e := by
    obtain ⟨j, job, same⟩ := u.job j' e
    rw [u.current]
    exact JobWf.of_place (h.target j job) same
  mapProgram page limit e := by
    obtain ⟨⟨l, port⟩, -, job⟩ := u.program _ _ _ e
    rw [job]
    exact h.mapProgram page l port
  commitProgram page limit e := by
    obtain ⟨⟨l, port⟩, -, -⟩ := u.program _ _ _ e
    exact h.commitProgram page l port
  record r' e := by
    obtain ⟨r, record, -, -, targetPage, -⟩ := u.record r' e
    rw [targetPage]
    exact h.record r record
  boot := law.boot

theorem PersistLaw.startJob (map : MapLaw s) (law : TableLaw s.startJob) (job : s.store.job = none) :
    PersistLaw s.startJob where
  target j e := by
    rw [MapStore.job_eq_some] at e
    obtain ⟨-, rfl⟩ := e
    have records := map.records_le
    refine ⟨jobTarget_not_current s.store, ?_, ?_⟩
    · show (if s.remap.records = [] then 0 else 1) < (copyPages s.toStore).length
      rw [copyPages_length]
      split
      · omega
      · rename_i some
        have : 0 < s.remap.records.length := List.length_pos_iff.mpr some
        show 1 < usedPages s.remap.records.length + 1
        unfold usedPages
        omega
    · show (copyPages s.toStore).length ≤ 17
      rw [copyPages_length]
      show usedPages s.remap.records.length + 1 ≤ 17
      unfold usedPages
      omega
  mapProgram page limit e := by
    obtain ⟨j, running, -⟩ := h.mapProgram page limit e
    rw [job] at running
    cases running
  commitProgram := h.commitProgram
  record := h.record
  boot := law.boot

theorem PersistLaw.takeSnapshot (law : TableLaw s.takeSnapshot) : PersistLaw s.takeSnapshot := by
  have parts : (∀ who page limit, s.takeSnapshot.port = .programming who page limit → s.port = .programming who page limit) ∧
      ∀ r, s.takeSnapshot.ce.record = some r → 34 ≤ r.targetPage := by
    unfold State.takeSnapshot
    split
    · exact ⟨fun _ _ _ e => e, h.record⟩
    · rename_i i _ _
      refine ⟨nofun, fun r e => ?_⟩
      cases e
      show 34 ≤ resolvePage s.remap (s.table.entries[i].page.getD 0)
      rcases resolvePage_cases s.remap (s.table.entries[i].page.getD 0) with ⟨m, -, -, -, -, page⟩ | ⟨-, -, page⟩
      · rw [page]; omega
      · rw [page]; omega
  rw [State.takeSnapshot_frame] at law ⊢
  exact ⟨h.target, fun page limit e => h.mapProgram page limit (parts.1 _ _ _ e),
    fun page limit e => h.commitProgram page limit (parts.1 _ _ _ e), parts.2, law.boot⟩

theorem PersistLaw.grantProgram (law : TableLaw s.grantProgram) : PersistLaw s.grantProgram := by
  unfold State.grantProgram at law ⊢
  split
  · exact h
  · rename_i r record
    rw [record] at law
    have low := h.record r record
    refine ⟨h.target, nofun, fun page limit e => ?_, fun r' e => ?_, law.boot⟩
    · cases e; exact low
    · cases e; exact low

theorem PersistLaw.grantMapStep (law : TableLaw s.grantMapStep) : PersistLaw s.grantMapStep := by
  unfold State.grantMapStep at law ⊢
  split
  · exact h
  · rename_i j job
    rw [job] at law
    simp only at law
    split
    · rename_i step
      rw [step] at law
      exact ⟨h.target, fun page limit e => ⟨j, job, by cases e; rfl⟩, nofun, h.record, law.boot⟩
    · rename_i step
      rw [step] at law
      exact ⟨h.target, nofun, nofun, h.record, law.boot⟩

theorem PersistLaw.verifyReadDone (law : TableLaw s.verifyReadDone) : PersistLaw s.verifyReadDone := by
  rcases State.verifyReadDone_ends s with same | ⟨r, record, idle, ends, job, current, -⟩
  · rw [same]; exact h
  · refine ⟨fun j e => ?_, fun page limit e => ?_, fun page limit e => ?_, fun r' e => ?_, law.boot⟩
    · rw [current]; exact h.target j (job ▸ e)
    · rw [idle] at e; cases e
    · rw [idle] at e; cases e
    · rcases ends with ⟨none, -⟩ | ⟨again, -⟩ | ⟨-, none | ⟨n, -, next⟩⟩
      · rw [none] at e; cases e
      · rw [again] at e; cases e; exact h.record r record
      · rw [none] at e; cases e
      · rw [next] at e; cases e; exact Nat.le_add_right 34 n

omit h in
theorem startAgain_reportSave_job (ok : Bool) (m : MapStore) : (startAgain (reportSave ok m)).job = m.job := by
  unfold startAgain reportSave
  split <;> split <;> rfl

theorem PersistLaw.mapVerifyReadDone (law : TableLaw s.mapVerifyReadDone) : PersistLaw s.mapVerifyReadDone := by
  unfold State.mapVerifyReadDone at law ⊢
  split
  · rename_i page j port job
    rw [port, job] at law
    simp only at law
    have ends : ∀ t : State, TableLaw t → t.store.job = none → t.port = .idle → t.ce = s.ce → PersistLaw t := by
      intro t law none idle ce
      refine ⟨fun j e => ?_, fun page limit e => ?_, fun page limit e => ?_, fun r e => ?_, law.boot⟩
      · rw [none] at e; cases e
      · rw [idle] at e; cases e
      · rw [idle] at e; cases e
      · rw [ce] at e; exact h.record r e
    unfold State.mapVerified at law ⊢
    split
    · rename_i same
      rw [if_pos same] at law
      split
      · rename_i header
        rw [if_pos header] at law
        exact ends _ law (startAgain_reportSave_job _ _) rfl rfl
      · rename_i more
        rw [if_neg more] at law
        refine ⟨fun j' e => ?_, nofun, nofun, h.record, law.boot⟩
        rw [MapStore.job_eq_some] at e
        obtain ⟨-, rfl⟩ := e
        obtain ⟨other, inside, few⟩ := h.target j job
        refine ⟨other, ?_, few⟩
        show nextJobPage j < j.image.length
        unfold nextJobPage
        split <;> omega
    · rename_i differs
      rw [if_neg differs] at law
      exact ends _ law (startAgain_reportSave_job _ _) rfl rfl
  · exact h

end

/-! ### The commit engine's side (R87) -/

/-- The target is what resolution gives, or a spare under trial. -/
def TargetWf (m : RemapUnit) (r : CommitRecord) : Prop :=
  (r.target = .home → r.targetPage = 34 + m.spares + r.page ∧ ∀ x ∈ m.records, x.kind = .remap → x.page ≠ r.page) ∧
  ∀ n, r.target = .spare n → r.targetPage = 34 + n ∧ n < m.spares ∧
    (r.trial = false → ∃ x ∈ m.records, x.kind = .remap ∧ x.spare = n ∧ x.page = r.page)

theorem TargetWf.of_same {m m' : RemapUnit} {r r' : CommitRecord} (h : TargetWf m r) (map : sameMap m' m)
    (same : sameTarget r' r) : TargetWf m' r' := by
  obtain ⟨page, target, targetPage, trial⟩ := same
  unfold TargetWf
  rw [map, page, target, targetPage, trial]
  exact h

/-- The target of a snapshot (R86, R87). -/
theorem TargetWf.snapshot {m : RemapUnit} (bound : ∀ x ∈ m.records, x.spare < m.spares) (i : Index) (e : Entry)
    (limit : Nat) : TargetWf m (snapshotRecord i e m limit) := by
  rcases resolvePage_cases m (e.page.getD 0) with ⟨x, mem, kind, page, target, resolved⟩ | ⟨none, target, resolved⟩
  · refine ⟨fun home => ?_, fun n spare => ?_⟩
    · rw [snapshotRecord, target] at home; cases home
    · rw [snapshotRecord, target] at spare
      cases spare
      exact ⟨resolved, bound x mem, fun _ => ⟨x, mem, kind, rfl, page⟩⟩
  · refine ⟨fun _ => ⟨resolved, none⟩, fun n spare => ?_⟩
    rw [snapshotRecord, target] at spare
    cases spare

theorem TargetLaw.of_parts {t : State} (record : ∀ r, t.ce.record = some r → TargetWf t.remap r)
    (program : ∀ page limit, t.port = .programming .commitEngine page limit →
      ∃ r, t.ce.record = some r ∧ page = r.targetPage) : TargetLaw t :=
  ⟨fun r e => (record r e).1, fun r n e => (record r e).2 n, program⟩

section
variable {s : State} (h : TargetLaw s)
include h

theorem TargetLaw.wf {r : CommitRecord} (e : s.ce.record = some r) : TargetWf s.remap r :=
  ⟨h.home r e, fun n => h.spare r n e⟩

theorem TargetLaw.untouched {t : State} (u : Untouched s t) : TargetLaw t := by
  refine .of_parts (fun r' e => ?_) fun page limit e => ?_
  · obtain ⟨r, record, same⟩ := u.record r' e
    exact (h.wf record).of_same u.map same
  · obtain ⟨⟨l, port⟩, records, -⟩ := u.program _ _ _ e
    obtain ⟨r, record, at_target⟩ := h.program page l port
    obtain ⟨r', record', -, -, same, -⟩ := records r record
    exact ⟨r', record', at_target.trans same.symm⟩

theorem TargetLaw.takeSnapshot (map : MapLaw s) : TargetLaw s.takeSnapshot := by
  unfold State.takeSnapshot
  split
  · exact h
  · refine .of_parts (fun r e => ?_) nofun
    cases e
    exact .snapshot map.bound _ _ _

theorem TargetLaw.grantProgram : TargetLaw s.grantProgram := by
  unfold State.grantProgram
  split
  · exact h
  · rename_i r record
    refine .of_parts (fun r' e => ?_) fun page limit e => ?_
    · cases e; exact (h.wf record).of_same rfl ⟨rfl, rfl, rfl, rfl⟩
    · cases e; exact ⟨_, rfl, rfl⟩

theorem TargetLaw.grantMapStep : TargetLaw s.grantMapStep := by
  unfold State.grantMapStep
  split
  · exact h
  · split
    · exact .of_parts (fun r e => h.wf e) nofun
    · exact .of_parts (fun r e => h.wf e) nofun

theorem TargetLaw.verifyReadDone : TargetLaw s.verifyReadDone := by
  rcases State.verifyReadDone_ends s with same | ⟨r, record, idle, ends, -, -, -⟩
  · rw [same]; exact h
  · refine .of_parts (fun r' e => ?_) fun page limit e => by rw [idle] at e; cases e
    rcases ends with ⟨none, -⟩ | ⟨again, map⟩ | ⟨-, none | ⟨n, allocates, next⟩⟩
    · rw [none] at e; cases e
    · rw [again] at e
      cases e
      exact (h.wf record).of_same map ⟨rfl, rfl, rfl, rfl⟩
    · rw [none] at e; cases e
    · rw [next] at e
      cases e
      refine ⟨nofun, fun k spare => ?_⟩
      cases spare
      exact ⟨rfl, (allocate_eq_some_iff.mp allocates).1, nofun⟩

theorem TargetLaw.mapVerifyReadDone : TargetLaw s.mapVerifyReadDone := by
  have idle : s.mapVerifyReadDone = s ∨ s.mapVerifyReadDone.port = .idle := by
    unfold State.mapVerifyReadDone State.mapVerified
    split
    · right
      split
      · split <;> rfl
      · rfl
    · exact .inl rfl
  rcases idle with same | idle
  · rw [same]; exact h
  · rw [State.mapVerifyReadDone_frame, idle]
    exact .of_parts (fun r e => h.wf e) nofun

end

/-! ### All rows -/

/-- The laws of table and map with those of what is programmed. -/
def ProgramLaw (s : State) : Prop := TablesLaw s ∧ PersistLaw s

/-- The laws of table and map with those of the commit's target. -/
def CommitLaw (s : State) : Prop := TablesLaw s ∧ TargetLaw s

theorem persistLaw_resetBlocks (e : EventUnit) (s : State) : PersistLaw (s.resetBlocks e) :=
  ⟨nofun, nofun, nofun, nofun, (tableLaw_resetBlocks e s).boot⟩

theorem targetLaw_resetBlocks (e : EventUnit) (s : State) : TargetLaw (s.resetBlocks e) := ⟨nofun, nofun, nofun⟩

theorem PersistLaw.follow {s : State} (h : PersistLaw s) (map : MapLaw s) {f : FollowOn} (due : s.due = some f)
    (law : TableLaw (s.follow f)) : PersistLaw (s.follow f) := by
  obtain ⟨-, spec⟩ := State.due_spec due
  cases f
  case clockStageEnd => exact h.untouched law (.startReady ⟨0, by simpa [clockStageEndDue] using spec⟩)
  case syncComplete => exact h.untouched law (.of_same rfl rfl)
  case saveComplete => exact h.untouched law (.finishSave s)
  case persistJobStart =>
    refine h.startJob map law ?_
    simp only [persistJobStartDue, Bool.and_eq_true] at spec
    exact Option.isNone_iff_eq_none.mp spec.1.2
  case waitingWriteTakenAgain => exact h.untouched law (.retakeWrite s)
  case pressure => exact h.untouched law (.applyPressure s)
  case byteReadGrant => exact h.untouched law (.grantByteRead s)
  case mapStoreStepGrant => exact h.grantMapStep law
  case snapshot => exact h.takeSnapshot law
  case programClaimGrant => exact h.grantProgram law
  case verifyClaimGrant => exact h.untouched law (.grantVerify s)
  case flushDone => exact h.untouched law (.of_same rfl rfl)

theorem TargetLaw.follow {s : State} (h : TargetLaw s) (map : MapLaw s) {f : FollowOn} (due : s.due = some f) :
    TargetLaw (s.follow f) := by
  obtain ⟨-, spec⟩ := State.due_spec due
  cases f
  case clockStageEnd => exact h.untouched (.startReady ⟨0, by simpa [clockStageEndDue] using spec⟩)
  case syncComplete => exact h.untouched (.of_same rfl rfl)
  case saveComplete => exact h.untouched (.finishSave s)
  case persistJobStart => exact ⟨h.home, h.spare, h.program⟩
  case waitingWriteTakenAgain => exact h.untouched (.retakeWrite s)
  case pressure => exact h.untouched (.applyPressure s)
  case byteReadGrant => exact h.untouched (.grantByteRead s)
  case mapStoreStepGrant => exact h.grantMapStep
  case snapshot => exact h.takeSnapshot map
  case programClaimGrant => exact h.grantProgram
  case verifyClaimGrant => exact h.untouched (.grantVerify s)
  case flushDone => exact h.untouched (.of_same rfl rfl)

theorem PersistLaw.loadReadDone {s : State} (h : PersistLaw s) (before : TableLaw s) (law : TableLaw s.loadReadDone) :
    PersistLaw s.loadReadDone := by
  rcases State.loadReadDone_cases (s := s) before.bootLaw_of_stage with u | ⟨job, record, port⟩
  · exact h.untouched law u
  · refine ⟨fun j e => ?_, fun page limit e => ?_, fun page limit e => ?_, fun r e => ?_, law.boot⟩
    · rw [job] at e; cases e
    · rw [port] at e; cases e
    · rw [port] at e; cases e
    · rw [record] at e; cases e

theorem TargetLaw.loadReadDone {s : State} (h : TargetLaw s) (before : TableLaw s) : TargetLaw s.loadReadDone := by
  rcases State.loadReadDone_cases (s := s) before.bootLaw_of_stage with u | ⟨-, record, port⟩
  · exact h.untouched u
  · refine .of_parts (fun r e => ?_) fun page limit e => ?_
    · rw [record] at e; cases e
    · rw [port] at e; cases e

/-- Every row keeps the laws of what is programmed by the map store and of the commit engine's pages. -/
theorem keeps_programLaw (c : Instr) : Keeps c ProgramLaw := by
  have k := keeps_tablesLaw c
  have quiet : ∀ {s t : State}, ProgramLaw s → TablesLaw t → Untouched s t → ProgramLaw t :=
    fun h laws u => ⟨laws, h.2.untouched laws.1 u⟩
  exact {
    follow := fun f s h due => ⟨k.follow f s h.1 due, h.2.follow h.1.2 due (k.follow f s h.1 due).1⟩
    expire := fun e s row h up waits => quiet h (k.expire e s row h.1 up waits) (.expire e s)
    tick := fun row s h up => quiet h (k.tick row s h.1 up) (.tick s)
    powerOn := fun row s h => ⟨k.powerOn row s h.1, persistLaw_resetBlocks _ s⟩
    rst := fun row s h => ⟨k.rst row s h.1, persistLaw_resetBlocks _ s⟩
    release := fun m p row s h reset =>
      have laws := k.release m p row s h.1 reset
      ⟨laws, h.2.target, h.2.mapProgram, h.2.commitProgram, h.2.record, laws.1.boot⟩
    host := fun p s h pend => quiet h (k.host p s h.1 pend) (.of_same rfl rfl)
    pfw := fun v s h => quiet h (k.pfw v s h.1) (.of_same rfl rfl)
    frame := fun lcs f s h => quiet h (k.frame lcs f s h.1) (.of_same rfl rfl)
    arriveWrite := fun a d row s h up => quiet h (k.arriveWrite a d row s h.1 up) (.arriveWrite a d s)
    arriveRead := fun a row s h up => quiet h (k.arriveRead a row s h.1 up) (.arriveRead a s)
    fill := fun row s h up => quiet h (k.fill row s h.1 up) (.fillReadDone s)
    program := fun r row s h up => quiet h (k.program r row s h.1 up) (.programDone r s)
    verify := fun row s h up => ⟨k.verify row s h.1 up, h.2.verifyReadDone (k.verify row s h.1 up).1⟩
    hostByte := fun row s h up => quiet h (k.hostByte row s h.1 up) (.hostByteDone s)
    mapVerify := fun row s h up => ⟨k.mapVerify row s h.1 up, h.2.mapVerifyReadDone (k.mapVerify row s h.1 up).1⟩
    mrdy := fun r row s h up => quiet h (k.mrdy r row s h.1 up) (.mrdyHigh r s)
    load := fun row s h up => ⟨k.load row s h.1 up, h.2.loadReadDone h.1.1 (k.load row s h.1 up).1⟩
    enterHoldup := fun row s h up run => quiet h (k.enterHoldup row s h.1 up run) (.enterHoldup s)
    leaveHoldup := fun row s h up holdup => quiet h (k.leaveHoldup row s h.1 up holdup) (.of_same rfl rfl)
    command := fun c args carries s h up => quiet h (k.command c args carries s h.1 up) (.takeEffect c args s) }

/-- Every row keeps the laws of the commit's target. -/
theorem keeps_commitLaw (c : Instr) : Keeps c CommitLaw := by
  have k := keeps_tablesLaw c
  have quiet : ∀ {s t : State}, CommitLaw s → TablesLaw t → Untouched s t → CommitLaw t :=
    fun h laws u => ⟨laws, h.2.untouched u⟩
  exact {
    follow := fun f s h due => ⟨k.follow f s h.1 due, h.2.follow h.1.2 due⟩
    expire := fun e s row h up waits => quiet h (k.expire e s row h.1 up waits) (.expire e s)
    tick := fun row s h up => quiet h (k.tick row s h.1 up) (.tick s)
    powerOn := fun row s h => ⟨k.powerOn row s h.1, targetLaw_resetBlocks _ s⟩
    rst := fun row s h => ⟨k.rst row s h.1, targetLaw_resetBlocks _ s⟩
    release := fun m p row s h reset => ⟨k.release m p row s h.1 reset, h.2.home, h.2.spare, h.2.program⟩
    host := fun p s h pend => quiet h (k.host p s h.1 pend) (.of_same rfl rfl)
    pfw := fun v s h => quiet h (k.pfw v s h.1) (.of_same rfl rfl)
    frame := fun lcs f s h => quiet h (k.frame lcs f s h.1) (.of_same rfl rfl)
    arriveWrite := fun a d row s h up => quiet h (k.arriveWrite a d row s h.1 up) (.arriveWrite a d s)
    arriveRead := fun a row s h up => quiet h (k.arriveRead a row s h.1 up) (.arriveRead a s)
    fill := fun row s h up => quiet h (k.fill row s h.1 up) (.fillReadDone s)
    program := fun r row s h up => quiet h (k.program r row s h.1 up) (.programDone r s)
    verify := fun row s h up => ⟨k.verify row s h.1 up, h.2.verifyReadDone⟩
    hostByte := fun row s h up => quiet h (k.hostByte row s h.1 up) (.hostByteDone s)
    mapVerify := fun row s h up => ⟨k.mapVerify row s h.1 up, h.2.mapVerifyReadDone⟩
    mrdy := fun r row s h up => quiet h (k.mrdy r row s h.1 up) (.mrdyHigh r s)
    load := fun row s h up => ⟨k.load row s h.1 up, h.2.loadReadDone h.1.1⟩
    enterHoldup := fun row s h up run => quiet h (k.enterHoldup row s h.1 up run) (.enterHoldup s)
    leaveHoldup := fun row s h up holdup => quiet h (k.leaveHoldup row s h.1 up holdup) (.of_same rfl rfl)
    command := fun c args carries s h up => quiet h (k.command c args carries s h.1 up) (.takeEffect c args s) }

/-! ### What the laws say of a program in progress -/

theorem PersistLaw.mapProgram_page {s : State} (h : PersistLaw s) {page limit : Nat}
    (port : s.port = .programming .mapStore page limit) :
    ∃ c, s.store.current ≠ some c ∧ copyBase c ≤ page ∧ page < copyBase c + 17 := by
  obtain ⟨j, job, rfl⟩ := h.mapProgram page limit port
  obtain ⟨other, inside, few⟩ := h.target j job
  refine ⟨j.target, other, ?_⟩
  unfold jobPhysical
  omega

/-- A program in progress is at no page of the current copy. -/
theorem PersistLaw.not_inCopy {s : State} (h : PersistLaw s) {who : Programmer} {page limit : Nat} {c : Copy}
    (port : s.port = .programming who page limit) (current : s.store.current = some c) : ¬ inCopy c page := by
  rintro ⟨low, high⟩
  cases who with
  | commitEngine =>
    have above := h.commitProgram page limit port
    rcases copyBase_cases c with ⟨-, base⟩ | ⟨-, base⟩ <;> omega
  | mapStore =>
    obtain ⟨c', other, low', high'⟩ := h.mapProgram_page port
    rw [current] at other
    rcases copyBase_cases c with ⟨is, base⟩ | ⟨is, base⟩ <;>
      rcases copyBase_cases c' with ⟨is', base'⟩ | ⟨is', base'⟩
    · exact other (by rw [is, is'])
    · omega
    · omega
    · exact other (by rw [is, is'])

/-- At most one record names a spare (R6). -/
theorem record_unique {l : List MapRecord} (ascending : (l.map (·.spare)).Pairwise (· < ·)) {m m' : MapRecord}
    (mem : m ∈ l) (mem' : m' ∈ l) (same : m.spare = m'.spare) : m = m' := by
  induction l with
  | nil => cases mem
  | cons x rest ih =>
    rw [List.map_cons] at ascending
    obtain ⟨least, ascending⟩ := List.pairwise_cons.mp ascending
    have above : ∀ y ∈ rest, x.spare < y.spare := fun y mem => least _ (List.mem_map_of_mem mem)
    rcases List.mem_cons.mp mem with rfl | later <;> rcases List.mem_cons.mp mem' with rfl | later'
    · rfl
    · have := above m' later'
      omega
    · have := above m later
      omega
    · exact ih ascending later later'

/-- A program of the commit engine is at no RETIRED spare and at no home page of a remapped page. -/
theorem TargetLaw.program_page {s : State} (h : TargetLaw s) (map : MapLaw s) {page limit : Nat}
    (port : s.port = .programming .commitEngine page limit) :
    (∀ m ∈ s.remap.records, m.kind = .retired → page ≠ 34 + m.spare) ∧
      ∀ m ∈ s.remap.records, m.kind = .remap → page ≠ 34 + s.remap.spares + m.page := by
  obtain ⟨r, record, rfl⟩ := h.program page limit port
  cases target : r.target with
  | home =>
    obtain ⟨at_home, free⟩ := h.home r record target
    refine ⟨fun m mem _ => ?_, fun m mem kind => ?_⟩
    · have := map.bound m mem
      omega
    · have := free m mem kind
      omega
  | spare n =>
    obtain ⟨at_spare, below, own⟩ := h.spare r n record target
    refine ⟨fun m mem kind same => ?_, fun m _ _ => by omega⟩
    have named : m.spare = n := by omega
    cases trial : r.trial with
    | false =>
      obtain ⟨x, x_mem, x_kind, x_spare, -⟩ := own trial
      have := record_unique map.ascending mem x_mem (named.trans x_spare.symm)
      rw [this, x_kind] at kind
      cases kind
    | true =>
      obtain ⟨k, k_target, -, fresh⟩ := (map.record r record).2 trial
      rw [target] at k_target
      cases k_target
      exact fresh m mem named

/-- Settles O60: the laws are kept by every row, and what they say of a program in progress is arithmetic on the pages. -/
theorem currentMapCopyIsNeverProgrammed : Obligations.CurrentMapCopyIsNeverProgrammed := by
  refine ⟨fun s t table map law run => ?_, fun s who page limit c law port current => law.not_inCopy port current,
    fun s t table map law run => ?_, fun s page limit map law port => law.program_page map port,
    fun s page limit law port => ?_⟩
  · exact (step_keeps (P := ProgramLaw)
      (fun q s h => ⟨TablesLaw.setPending h.1 q, h.2.untouched (TablesLaw.setPending h.1 q).1 (.of_same rfl rfl)⟩)
      keeps_programLaw ⟨⟨table, map⟩, law⟩ run).2
  · exact (step_keeps (P := CommitLaw)
      (fun q s h => ⟨TablesLaw.setPending h.1 q, h.2.untouched (.of_same rfl rfl)⟩)
      keeps_commitLaw ⟨⟨table, map⟩, law⟩ run).2
  · obtain ⟨c, -, -, high⟩ := law.mapProgram_page port
    have : page < 34 := by rcases copyBase_cases c with ⟨-, base⟩ | ⟨-, base⟩ <;> omega
    exact ⟨fun m _ => by omega, fun m _ => by omega⟩

end Sys2Proof.Machine
end

section
/-! The follow-on rows of one step come to an end within the bound, and a row from outside sees their end (O3). -/
namespace Sys2Proof.Machine

/-! ### How many follow-on rows can still come -/

/-- 1 for what holds, 0 for what does not. -/
def oneIf (p : Prop) [Decidable p] : Nat := if p then 1 else 0

theorem oneIf_mono {p q : Prop} [Decidable p] [Decidable q] (h : p → q) : oneIf p ≤ oneIf q := by
  unfold oneIf
  split
  · rename_i p; exact Nat.le_of_eq (if_pos (h p)).symm
  · exact Nat.zero_le _

theorem oneIf_le (p : Prop) [Decidable p] : oneIf p ≤ 1 := by unfold oneIf; split <;> omega
theorem oneIf_of {p : Prop} [Decidable p] (h : p) : oneIf p = 1 := if_pos h
theorem oneIf_of_not {p : Prop} [Decidable p] (h : ¬ p) : oneIf p = 0 := if_neg h

/-- What each follow-on row uses up: the end of CLOCK, a SYNC, a SAVE's report, a job's start, a waiting write, an idle
commit engine with an empty queue, an idle port, a running flush. No row brings one of them back that an earlier one has
used up. -/
def stepsLeft (s : State) : Nat :=
  oneIf (s.boot.stage = .clock 0) + oneIf (s.link.longCommand = .sync) + oneIf (s.store.saveReport.isSome = true) +
    oneIf (s.store.startDue = true) + oneIf ((waitingWrite s.host).isSome = true) +
    oneIf (s.table.dueQueue = [] ∧ s.ce.record.isNone = true) + oneIf (s.port = .idle) + oneIf (s.flush = .flushing)

theorem stepsLeft_le (s : State) : stepsLeft s ≤ 8 := by
  have := oneIf_le (s.boot.stage = .clock 0)
  have := oneIf_le (s.link.longCommand = .sync)
  have := oneIf_le (s.store.saveReport.isSome = true)
  have := oneIf_le (s.store.startDue = true)
  have := oneIf_le ((waitingWrite s.host).isSome = true)
  have := oneIf_le (s.table.dueQueue = [] ∧ s.ce.record.isNone = true)
  have := oneIf_le (s.port = .idle)
  have := oneIf_le (s.flush = .flushing)
  unfold stepsLeft
  omega

/-! ### A write that is due to be taken is taken -/

/-- A table with room takes a write: the dirty count is below the budget of at most 32, so an entry is FREE or CLEAN. -/
theorem takeSlot_of_room {b : Nat} {ce : CommitEngine} {t : SettleTable} (h : TableHolds b ce t)
    (room : dirtyCount t < 32) : ∃ slot, takeSlot t = some slot := by
  obtain ⟨i, clean⟩ := exists_not_dirty room
  unfold takeSlot
  cases free : firstIndex t (inState .free) with
  | some k => exact ⟨_, rfl⟩
  | none =>
    have state : t.entries[i].state = .clean := by
      have := firstIndex_eq_none_iff.mp free i
      revert clean this
      unfold isDirty inState
      cases t.entries[i].state <;> simp
    have listed : i ∈ t.cleanList := (h.wf.cleans.2 i).mpr state
    cases list : t.cleanList with
    | nil => rw [list] at listed; cases listed
    | cons j rest => exact ⟨_, rfl⟩

theorem tableWrite_of_room {b : Nat} {ce : CommitEngine} {t : SettleTable} (h : TableHolds b ce t) {budget : Nat}
    (room : dirtyCount t < budget) (cap : budget ≤ 32) (now : Stamp) (page : Nat) (o : Offset) (d : Byte)
    (p : PolicyRecord) : ∃ r, tableWrite budget now page o d p t = some r := by
  unfold tableWrite
  split
  · obtain ⟨slot, takes⟩ := takeSlot_of_room h (Nat.lt_of_lt_of_le room cap)
    exact ⟨_, by rw [if_pos room, takes]; rfl⟩
  · rename_i i entry
    split
    · exact ⟨_, if_pos room⟩
    · exact ⟨_, rfl⟩
    · exact ⟨_, rfl⟩
    · exact ⟨_, rfl⟩
    · exact ⟨_, rfl⟩
    · rename_i free
      exact absurd free (entryFor_eq_some_iff.mp entry).1.1

theorem tableWrite_dueQueue {budget page : Nat} {now : Stamp} {o : Offset} {b : Byte} {p : PolicyRecord}
    {t t' : SettleTable} {n : Counter} (takes : tableWrite budget now page o b p t = some (t', n))
    (empty : t'.dueQueue = []) : t.dueQueue = [] := by
  have through : ∀ (i : Index) (u : SettleTable), (promoteIfThrough p i u).dueQueue = [] → u.dueQueue = [] := by
    intro i u e
    rcases promoteIfThrough_cases p i u with ⟨-, -, eq⟩ | ⟨-, eq⟩ <;> rw [eq] at e
    · rw [promote_dueQueue] at e
      exact (List.append_eq_nil_iff.mp e).1
    · exact e
  rcases tableWrite_cases takes with ⟨-, -, -, i, t1, slot, rfl⟩ | ⟨i, -, ⟨-, -, -, rfl⟩ | ⟨-, merges⟩⟩
  · have queue : t1.dueQueue = t.dueQueue := by
      rcases takeSlot_cases slot with ⟨-, -, rfl⟩ | ⟨-, -, -, queue⟩
      · rfl
      · exact queue
    rw [← queue]
    exact through i (updateEntry t1 i fun _ => admittedEntry page o b p now) empty
  · exact through i (updateEntry { t with cleanList := t.cleanList.filter (· != i) } i (redirtiedEntry o b p now)) empty
  · rcases merges with ⟨-, rfl⟩ | ⟨-, rfl⟩ | ⟨-, rfl⟩ | ⟨-, rfl⟩
    · exact through i (updateEntry t i fun e => restartQuiet p (putByte o b e)) empty
    · exact empty
    · exact empty
    · exact empty

/-- A waiting write that is due is taken: none waits afterwards, and the queue is no shorter. -/
theorem State.retakeWrite_takes {s : State} (h : TableLaw s) (due : waitingWriteDue s = true) :
    waitingWrite s.retakeWrite.host = none ∧ (s.retakeWrite.table.dueQueue = [] → s.table.dueQueue = []) := by
  simp only [waitingWriteDue, Bool.and_eq_true, decide_eq_true_eq] at due
  obtain ⟨⟨-, waits⟩, room⟩ := due
  obtain ⟨⟨a, d⟩, waits⟩ := Option.isSome_iff_exists.mp waits
  unfold State.retakeWrite
  rw [waits]
  simp only
  rcases State.takeResolvedWrite_cases a d s with ⟨-, e⟩ | ⟨-, ⟨r, write, e⟩ | ⟨refused, e⟩⟩ <;> rw [e]
  · exact ⟨rfl, id⟩
  · refine ⟨?_, fun empty => ?_⟩
    · rw [Option.getD_some, State.placeStart_frame]; rfl
    · rw [Option.getD_some, State.placeStart_frame] at empty
      exact tableWrite_dueQueue write empty
  · obtain ⟨r, write⟩ := tableWrite_of_room h.holds room h.cap s.time.stamp (logicalPage a) (pageOffset a) d
      (resolvePolicy s.regions (logicalPage a))
    rw [refused] at write
    cases write

/-! ### Each follow-on row uses one up -/

theorem State.not_idle_of_port {s : State} {p : PortState} (port : s.port = p) (other : p ≠ .idle) :
    oneIf (s.port = .idle) = 0 := oneIf_of_not (port ▸ other)

/-- A grant at the idle port takes the port, whatever it does besides to engine and host. -/
theorem stepsLeft_grant {s t : State}
    (e : t = { s with host := t.host, table := t.table, ce := t.ce, port := t.port, pnv := t.pnv, events := t.events })
    (idle : s.port = .idle) (busy : t.port ≠ .idle) (waits : waitingWrite t.host = waitingWrite s.host)
    (record : t.ce.record.isNone = true → s.ce.record.isNone = true ∧ t.table.dueQueue = s.table.dueQueue) :
    stepsLeft t < stepsLeft s := by
  have port := oneIf_of idle
  have port' := oneIf_of_not busy
  have engine : oneIf (t.table.dueQueue = [] ∧ t.ce.record.isNone = true) ≤
      oneIf (s.table.dueQueue = [] ∧ s.ce.record.isNone = true) :=
    oneIf_mono fun ⟨queue, no⟩ => ⟨(record no).2 ▸ queue, (record no).1⟩
  generalize t.host = host at e waits
  generalize t.table = table at e engine
  generalize t.ce = ce at e engine
  generalize t.port = p at e port'
  generalize t.pnv = pnv at e
  generalize t.events = events at e
  subst e
  simp only [stepsLeft, waits]
  omega

theorem stepsLeft_follow {s : State} (h : TableLaw s) {f : FollowOn} (due : s.due = some f) :
    stepsLeft (s.follow f) < stepsLeft s := by
  obtain ⟨-, spec⟩ := State.due_spec due
  cases f
  case clockStageEnd =>
    have before := oneIf_of (p := s.boot.stage = .clock 0) (by simpa [clockStageEndDue] using spec)
    have after : oneIf (s.startReady.boot.stage = .clock 0) = 0 := by
      refine oneIf_of_not ?_
      unfold State.startReady
      split <;> nofun
    have port : oneIf (s.startReady.port = .idle) ≤ oneIf (s.port = .idle) := by
      refine oneIf_mono ?_
      unfold State.startReady
      split
      · nofun
      · exact id
    show stepsLeft s.startReady < _
    rw [State.startReady_frame]
    simp only [stepsLeft]
    omega
  case syncComplete =>
    have before := oneIf_of (p := s.link.longCommand = .sync) (by simp [syncCompleteDue] at spec; exact spec.1)
    show stepsLeft s.finishSync < _
    have after := oneIf_of_not (p := LongCommand.none = .sync) nofun
    simp only [stepsLeft, State.finishSync, State.raise_boot, State.setLink_boot]
    show oneIf (s.boot.stage = .clock 0) + oneIf (LongCommand.none = .sync) + oneIf (s.store.saveReport.isSome = true) +
      oneIf (s.store.startDue = true) + oneIf ((waitingWrite s.host).isSome = true) +
      oneIf (s.table.dueQueue = [] ∧ s.ce.record.isNone = true) + oneIf (s.port = .idle) + oneIf (s.flush = .flushing) < _
    omega
  case saveComplete =>
    have before := oneIf_of (p := s.store.saveReport.isSome = true) spec
    have report : s.finishSave.store.saveReport = none ∧ s.finishSave.link.longCommand = .none ∧
        s.finishSave.store.startDue = s.store.startDue := by
      unfold State.finishSave
      split <;> exact ⟨rfl, rfl, rfl⟩
    have after := oneIf_of_not (p := s.finishSave.store.saveReport.isSome = true) (by rw [report.1]; nofun)
    have link := oneIf_of_not (p := s.finishSave.link.longCommand = .sync) (by rw [report.2.1]; nofun)
    show stepsLeft s.finishSave < _
    rw [State.finishSave_frame]
    simp only [stepsLeft, report.2.2]
    omega
  case persistJobStart =>
    have due : s.store.startDue = true := by simp [persistJobStartDue] at spec; exact spec.1.1
    have before := oneIf_of due
    have after := oneIf_of_not (p := false = true) nofun
    show oneIf (s.boot.stage = .clock 0) + oneIf (s.link.longCommand = .sync) + oneIf (s.store.saveReport.isSome = true) +
      oneIf (false = true) + oneIf ((waitingWrite s.host).isSome = true) +
      oneIf (s.table.dueQueue = [] ∧ s.ce.record.isNone = true) + oneIf (s.port = .idle) + oneIf (s.flush = .flushing) < _
    unfold stepsLeft
    omega
  case waitingWriteTakenAgain =>
    obtain ⟨none, queue⟩ := State.retakeWrite_takes h spec
    have waits : (waitingWrite s.host).isSome = true := by simp [waitingWriteDue] at spec; exact spec.1.2
    have before := oneIf_of waits
    have after := oneIf_of_not (p := (waitingWrite s.retakeWrite.host).isSome = true) (by rw [none]; nofun)
    have record : s.retakeWrite.ce.record.isNone = true → s.ce.record.isNone = true := by
      intro e
      cases eq : s.ce.record with
      | none => rfl
      | some r =>
        have same : s.retakeWrite.ce.record = s.ce.record := by
          unfold State.retakeWrite
          split
          · rfl
          · rename_i a d _
            cases takes : s.takeResolvedWrite a d with
            | none => rfl
            | some t => exact State.takeResolvedWrite_record takes
        rw [same, eq] at e
        cases e
    have engine : oneIf (s.retakeWrite.table.dueQueue = [] ∧ s.retakeWrite.ce.record.isNone = true) ≤
        oneIf (s.table.dueQueue = [] ∧ s.ce.record.isNone = true) := oneIf_mono fun ⟨q, r⟩ => ⟨queue q, record r⟩
    show stepsLeft s.retakeWrite < _
    rw [State.retakeWrite_frame]
    simp only [stepsLeft]
    omega
  case pressure =>
    simp only [pressureDue, Bool.and_eq_true, List.isEmpty_iff, Bool.not_eq_true'] at spec
    obtain ⟨⟨⟨⟨-, -⟩, queue⟩, committing⟩, settling⟩ := spec
    have record : s.ce.record.isNone = true := by
      cases record : s.ce.record with
      | none => rfl
      | some r =>
        have state := (h.committing r.entry).mpr ⟨r, record, rfl⟩
        have : someEntry s.table (inState .committing) = true := someEntry_iff.mpr ⟨r.entry, by rw [inState, state]; rfl⟩
        rw [committing] at this
        cases this
    have before := oneIf_of (p := s.table.dueQueue = [] ∧ s.ce.record.isNone = true) ⟨queue, record⟩
    have promoted : s.applyPressure.table.dueQueue ≠ [] := by
      obtain ⟨i, is⟩ := someEntry_iff.mp settling
      have listed : i ∈ settlingByAge s.time.stamp s.table := mem_settlingByAge.mpr (by simpa [inState] using is)
      unfold State.applyPressure
      split
      · rename_i none; rw [none] at listed; cases listed
      · rw [State.placeStart_frame]
        show (promote _ s.table).dueQueue ≠ []
        rw [promote_dueQueue]
        simp
    have after := oneIf_of_not (p := s.applyPressure.table.dueQueue = [] ∧ s.applyPressure.ce.record.isNone = true)
      fun e => promoted e.1
    show stepsLeft s.applyPressure < _
    rw [State.applyPressure_frame]
    simp only [stepsLeft]
    omega
  case byteReadGrant =>
    obtain ⟨idle, a, read⟩ := grantDue_spec spec
    obtain ⟨p, pend, access, -⟩ := waitingRead_eq_some read
    refine stepsLeft_grant (t := s.grantByteRead) ?_ idle ?_ ?_ ?_
    · rw [State.grantByteRead_frame]
    · simp [State.grantByteRead, read, State.setPort]
    · have no : waitingWrite s.host = none := by
        obtain ⟨access', addr, limit, left, wait⟩ := p
        cases access
        rw [waitingWrite, pend]
      rw [no]
      simp [State.grantByteRead, read, State.setPort, State.setWait, State.setHost, waitingWrite, pend, access]
    · rw [State.grantByteRead_frame]
      exact fun e => ⟨e, rfl⟩
  case mapStoreStepGrant =>
    obtain ⟨idle, j, job⟩ := grantDue_spec spec
    refine stepsLeft_grant (t := s.grantMapStep) ?_ idle ?_ ?_ ?_
    · rw [State.grantMapStep_frame]
    · unfold State.grantMapStep
      rw [job]
      simp only
      cases j.step
      · exact nofun
      · exact nofun
    · rw [State.grantMapStep_frame]
    · rw [State.grantMapStep_frame]
      exact fun e => ⟨e, rfl⟩
  case snapshot =>
    obtain ⟨idle, -, queue⟩ := grantDue_spec spec
    obtain ⟨i, rest, queue⟩ := List.exists_cons_of_ne_nil queue
    refine stepsLeft_grant (t := s.takeSnapshot) ?_ idle ?_ ?_ ?_
    · rw [State.takeSnapshot_frame]
    · simp only [State.takeSnapshot, queue]
      nofun
    · rw [State.takeSnapshot_frame]
    · simp only [State.takeSnapshot, queue]
      nofun
  case programClaimGrant =>
    obtain ⟨idle, -, r, record⟩ := grantDue_spec spec
    refine stepsLeft_grant (t := s.grantProgram) ?_ idle ?_ ?_ ?_
    · rw [State.grantProgram_frame]
    · simp only [State.grantProgram, record]
      nofun
    · rw [State.grantProgram_frame]
    · simp only [State.grantProgram, record]
      nofun
  case verifyClaimGrant =>
    obtain ⟨idle, -, r, record⟩ := grantDue_spec spec
    refine stepsLeft_grant (t := s.grantVerify) ?_ idle ?_ ?_ ?_
    · rw [State.grantVerify_frame]
    · simp only [State.grantVerify, record]
      nofun
    · rw [State.grantVerify_frame]
    · simp only [State.grantVerify, record]
      exact fun e => ⟨e, rfl⟩
  case flushDone =>
    have before := oneIf_of (p := s.flush = .flushing) (by simp [flushDoneDue] at spec; exact spec.1.2)
    have after := oneIf_of_not (p := FlushState.done = .flushing) nofun
    show oneIf (s.boot.stage = .clock 0) + oneIf (s.link.longCommand = .sync) + oneIf (s.store.saveReport.isSome = true) +
      oneIf (s.store.startDue = true) + oneIf ((waitingWrite s.host).isSome = true) +
      oneIf (s.table.dueQueue = [] ∧ s.ce.record.isNone = true) + oneIf (s.port = .idle) +
      oneIf (FlushState.done = .flushing) < _
    unfold stepsLeft
    omega

/-! ### The settled state -/

/-- With at most `n` follow-on rows left, `n` of them complete the step. -/
theorem State.settleFor_complete {n : Nat} {s : State} (h : TableLaw s) (left : stepsLeft s ≤ n) :
    (State.settleFor none n s).due = none := by
  induction n generalizing s with
  | zero =>
    cases due : s.due with
    | none => exact due
    | some f =>
      have := stepsLeft_follow h due
      omega
  | succ n ih =>
    simp only [State.settleFor]
    cases due : s.due with
    | none => exact due
    | some f =>
      have := stepsLeft_follow h due
      exact ih (h.follow due) (by omega)

theorem State.settled_due {s : State} (h : TableLaw s) : s.settled.due = none :=
  State.settleFor_complete h (Nat.le_trans (stepsLeft_le s) (by decide))

/-- A row from outside acts on the settled state (log 1). -/
theorem exec_settled {c : Instr} {s : State} (outside : followOnOf c = none) (notTick : c ≠ .timebaseTick)
    (up : s.inReset = false) (complete : s.settled.due = none) : exec c s = exec c s.settled := by
  have again : s.settled.settled = s.settled := State.settled_of_due_none complete
  have up' : s.settled.inReset = false := (State.settled_inReset s).trans up
  rcases row_cases c with (rfl | rfl) | ⟨m, p, rfl⟩ | rfl | ⟨f, follows⟩ | plain
  · show Host.Outcome.next (s.settled.resetBlocks _) = .next (s.settled.settled.resetBlocks _)
    rw [again]
  · show Host.Outcome.next (s.settled.resetBlocks (eventsAfterRst (dirtyCount s.settled.table) s.settled.events)) =
      .next (s.settled.settled.resetBlocks (eventsAfterRst (dirtyCount s.settled.settled.table) s.settled.settled.events))
    rw [again]
  · show (if s.inReset then _ else Host.Outcome.next s.settled) =
      if s.settled.inReset then _ else .next s.settled.settled
    rw [up, up', again]
    rfl
  · exact absurd rfl notTick
  · rw [follows] at outside; cases outside
  · rw [exec_of_plainRow plain, exec_of_plainRow plain, up, up', again]
    rfl

/-- Settles O3: a row from outside acts on the settled state, and each follow-on row uses up one of eight occasions. -/
theorem outsideRowsWaitForTheStepToComplete : Obligations.OutsideRowsWaitForTheStepToComplete :=
  ⟨fun _ _ outside notTick up complete => exec_settled outside notTick up complete, fun _ law => State.settled_due law⟩

/-- Settles O56: the laws of State.reset, each from its blocks' reset values. -/
theorem resetMeetsEveryLaw : Obligations.ResetMeetsEveryLaw := by
  have boot : BootLaw State.reset := .reset rfl rfl rfl rfl rfl rfl
  have table : TableLaw State.reset :=
    (tableLaw_iff _).mpr ⟨tableHolds_reset, by show 8 ≤ 32; decide, portWf_idle _, fun _ => boot⟩
  have map : MapLaw State.reset := by
    refine .of_parts table (remapWf_reset _) (fun i p e => ?_) nofun (.of_none rfl) fun _ => rfl
    replace e : SettleTable.reset.entries[i].page = some p := e
    rw [reset_entries] at e
    cases e
  exact ⟨State.reset_wf, table, map, ⟨nofun, nofun, nofun, nofun, fun _ => boot⟩, ⟨nofun, nofun, nofun⟩⟩

end Sys2Proof.Machine
end

section
/-! What no row undoes: a set flag (O52), a map record (O53), FAULT (O54), and no write accepted in HOLDUP (O55). -/
namespace Sys2Proof.Machine

/-! ### What is reported -/

/-- Every flag set in the one word is set in the other. -/
def flagsKept (e e' : EventUnit) : Prop := ∀ f, flagIn e.flags f = true → flagIn e'.flags f = true

/-- HOST_WRITES_ACCEPTED stands. -/
def acceptedStands (e e' : EventUnit) : Prop :=
  e'.counters[counterIndex .hostWritesAccepted] = e.counters[counterIndex .hostWritesAccepted]

/-- Flags are set, errors offered and counters raised, but for HOST_WRITES_ACCEPTED. -/
structure Reported (s t : State) : Prop where
  flags : flagsKept s.events t.events
  accepted : acceptedStands s.events t.events

theorem Reported.of_events {s t : State} (h : t.events = s.events) : Reported s t :=
  ⟨fun _ set => by rw [h]; exact set, by unfold acceptedStands; rw [h]⟩

theorem Reported.refl (s : State) : Reported s s := .of_events rfl

theorem Reported.trans {s t u : State} (a : Reported s t) (b : Reported t u) : Reported s u :=
  ⟨fun f h => b.flags f (a.flags f h), b.accepted.trans a.accepted⟩

theorem Reported.raise (f : Flag) (s : State) : Reported s (s.raise f) := by
  refine ⟨fun g set => ?_, rfl⟩
  show flagIn (s.events.flags ||| (1#15 <<< flagBit f)) g = true
  unfold flagIn at *
  simp [set]

/-- A flag is set in a state whose events are those of another. -/
theorem Reported.raise_of {s t : State} (f : Flag) (h : t.events = s.events) : Reported s (t.raise f) :=
  (Reported.of_events h).trans (.raise f t)

theorem Reported.offer (k : ErrorKind) (a : Nat) (s : State) : Reported s (s.offer k a) := by
  unfold State.offer offerError
  split <;> exact ⟨fun _ h => h, rfl⟩

theorem Reported.count {c : Counter} (other : c ≠ .hostWritesAccepted) (s : State) : Reported s (s.count c) := by
  refine ⟨fun _ h => h, ?_⟩
  have different : (counterIndex c).val ≠ (counterIndex .hostWritesAccepted).val := by
    cases c
    case hostWritesAccepted => exact absurd rfl other
    all_goals decide
  show (s.events.counters.set (counterIndex c).val _ (counterIndex c).isLt)[(counterIndex .hostWritesAccepted).val] = _
  rw [Vector.getElem_set_ne _ _ different]
  rfl

theorem Reported.offerUnordered (errs : List (ErrorKind × Nat)) (s : State) : Reported s (s.offerUnordered errs) := by
  have fold : ∀ (l : List (ErrorKind × Nat)) (t : State), Reported t (l.foldl (fun t e => t.offer e.1 e.2) t) := by
    intro l
    induction l with
    | nil => exact fun t => .refl _
    | cons e l ih => exact fun t => (Reported.offer e.1 e.2 t).trans (ih _)
  unfold State.offerUnordered
  split
  · exact .refl _
  · exact .offer _ _ _
  · exact (fold _ s).trans (.of_events rfl)

theorem Reported.report (f : Flag) (k : ErrorKind) (a : HostAddr) (s : State) : Reported s (s.report f k a) :=
  (Reported.raise f s).trans (.offer _ _ _)

theorem Reported.endRead (b : Byte) (s : State) : Reported s (s.endRead b) :=
  (Reported.count (c := .hostReads) (by decide) s).trans (.of_events rfl)

theorem Reported.dropWrite (f : Flag) (k : ErrorKind) (a : HostAddr) (s : State) : Reported s (s.dropWrite f k a) :=
  (Reported.report f k a s).trans (.of_events rfl)

theorem Reported.placeStart (s : State) : Reported s s.placeStart :=
  .of_events (congrArg State.events (State.placeStart_frame s) :)

theorem Reported.commitOver (s : State) : Reported s s.commitOver :=
  .of_events (congrArg State.events (State.commitOver_frame s) :)

/-! ### The operations that report -/

theorem takeResolvedWrite_flags {a : HostAddr} {d : Byte} {s t : State} (takes : s.takeResolvedWrite a d = some t) :
    flagsKept s.events t.events := by
  rcases State.takeResolvedWrite_cases a d s with ⟨-, e⟩ | ⟨-, ⟨r, -, e⟩ | ⟨-, e⟩⟩ <;> rw [e] at takes <;> cases takes
  · exact (Reported.dropWrite _ _ _ _).flags
  · exact fun f h => (Reported.placeStart _).flags f h

theorem takeWrite_getD_flags (a : HostAddr) (d : Byte) (s : State) (p : HostPort) :
    flagsKept s.events ((s.takeWrite a d).getD (s.setHost p)).events := by
  rcases State.takeWrite_cases a d s with ⟨-, e⟩ | ⟨-, e⟩ <;> rw [e]
  · exact (Reported.dropWrite _ _ _ _).flags
  · cases takes : s.takeResolvedWrite a d with
    | none => exact fun f h => h
    | some t => exact takeResolvedWrite_flags takes

theorem Reported.takeRead_getD (a : HostAddr) (s : State) (p : HostPort) :
    Reported s ((s.takeRead a).getD (s.setHost p)) := by
  rcases State.takeRead_cases a s with ⟨-, e⟩ | ⟨-, ⟨i, byte, -, e⟩ | ⟨-, ⟨-, e⟩ | ⟨-, e⟩⟩⟩ <;> rw [e]
  · exact (Reported.report _ _ _ _).trans (.endRead _ _)
  · have hit : Reported s (s.setTable (touchClean i s.table)) := .of_events rfl
    exact (hit.trans (.count (by decide) _)).trans (.endRead _ _)
  · exact (Reported.offer _ _ _).trans (.endRead _ _)
  · exact .of_events rfl

theorem arriveWrite_flags (a : HostAddr) (d : Byte) (s : State) : flagsKept s.events (s.arriveWrite a d).events := by
  unfold State.arriveWrite
  split
  · exact fun f h => h
  · exact (Reported.dropWrite _ _ _ _).flags
  · exact takeWrite_getD_flags a d s _

theorem Reported.arriveRead (a : HostAddr) (s : State) : Reported s (s.arriveRead a) := by
  unfold State.arriveRead
  split
  · exact .of_events rfl
  · exact .takeRead_getD a s _

theorem takeHeld_flags (s : State) : flagsKept s.events s.takeHeld.events := by
  unfold State.takeHeld
  split
  · exact fun f h => h
  · split
    · split
      · exact (Reported.dropWrite _ _ _ _).flags
      · exact takeWrite_getD_flags _ _ s _
    · exact (Reported.takeRead_getD _ s _).flags

theorem Reported.stallExpires (s : State) : Reported s s.stallExpires := by
  unfold State.stallExpires
  split
  · exact .refl _
  · split
    · exact .dropWrite _ _ _ _
    · exact (Reported.report _ _ _ _).trans (.endRead _ _)

theorem Reported.hostInFault (s : State) : Reported s s.hostInFault := by
  unfold State.hostInFault
  split
  · exact (Reported.offer _ _ _).trans (.endRead _ _)
  · exact (Reported.raise _ _).trans (.endRead _ _)
  · exact (Reported.raise _ s).trans (.of_events rfl)
  · exact .refl _

theorem Reported.enterFault (c : ErrorKind × Nat) (s : State) : Reported s (s.enterFault c) := by
  have flags : ∀ u : State, Reported u u.faultFlags := by
    intro u
    unfold State.faultFlags
    split
    · exact (Reported.raise _ _).trans (.raise _ _)
    · exact .raise _ _
  have told : ∀ u : State, Reported s u → Reported s u.commitInFault.clearSyncMarks := by
    refine fun u h => h.trans (.of_events ?_)
    simp only [State.clearSyncMarks, State.setTable_events]
    rw [State.commitInFault_frame]
  have told := told _ (((Reported.offerUnordered (faultErrors c s) s).trans (flags _)).trans
    (.of_events (State.setStore_events _ (storeInFault ((s.offerUnordered (faultErrors c s)).faultFlags).store))))
  simp only [State.enterFault]
  generalize State.clearSyncMarks _ = u at told ⊢
  exact (told.trans (.hostInFault u)).trans (.of_events rfl)

theorem Reported.raiseLoss (s : State) : Reported s s.raiseLoss := by
  unfold State.raiseLoss
  split
  · exact ⟨(Reported.raise .loss s).flags, (Reported.raise .loss s).accepted⟩
  · exact .refl _

theorem endBoot_flags (s : State) : flagsKept s.events s.endBoot.events := by
  have loss : Reported s ((s.bootOver).setPort .idle).raiseLoss :=
    (Reported.of_events (s := s) (t := (s.bootOver).setPort .idle) rfl).trans (.raiseLoss _)
  simp only [State.endBoot]
  generalize ((s.bootOver).setPort .idle).raiseLoss = u at loss ⊢
  split
  · exact fun f h => takeHeld_flags _ f (loss.flags f h)
  · exact fun f h => takeHeld_flags _ f (loss.flags f h)

theorem selectAndBuild_flags (s : State) : flagsKept s.events s.selectAndBuild.events := by
  have fault : ∀ e : ErrorKind × Nat, flagsKept s.events (((s.bootOver).raiseLoss).enterFault e).events := by
    intro e
    have lost : Reported s (s.bootOver).raiseLoss :=
      (Reported.of_events (s := s) (t := s.bootOver) rfl).trans (.raiseLoss _)
    exact (lost.trans (.enterFault e _)).flags
  have built : ∀ u : State, flagsKept s.events u.events → flagsKept s.events u.endBoot.events :=
    fun u h f set => endBoot_flags u f (h f set)
  simp only [State.selectAndBuild]
  split
  · exact fault _
  · split
    · exact fault _
    · split
      · exact built _ fun f h => h
      · exact built _ fun f h => h
      · refine built _ fun f h => ?_
        exact (Reported.raise .fresh _).flags f h

theorem loadReadDone_flags (s : State) : flagsKept s.events s.loadReadDone.events := by
  unfold State.loadReadDone
  split
  · rename_i page c k _ _
    simp only [State.pageLoaded]
    generalize addLoaded c (s.readPage page) s.boot = boot
    split
    · exact fun f h => h
    · split
      · exact fun f h => h
      · exact fun f h => selectAndBuild_flags (s.setBoot boot) f h
  · exact fun f h => h

theorem Reported.commitSucceeds (r : CommitRecord) (s : State) : Reported s (s.commitSucceeds r) := by
  have counted : Reported s ((s.count .commits).setTable (routeSuccess s.mode r.entry s.table)) :=
    (Reported.count (by decide) s).trans (.of_events rfl)
  exact counted.trans (.commitOver _)

theorem Reported.commitPinned (r : CommitRecord) (s : State) : Reported s (s.commitPinned r) := by
  have pinned : Reported s (s.setTable (updateEntry s.table r.entry (pinnedEntry r.changeSet))) := .of_events rfl
  exact pinned.trans (.commitOver _)

theorem Reported.fillReadDone (s : State) : Reported s s.fillReadDone := by
  unfold State.fillReadDone
  split
  · rename_i page r _ _
    simp only [State.fillDone]
    generalize updateEntry (s.setPort .idle).table r.entry (filledEntry (s.readPage page)) = t
    have filled : Reported s ((s.setPort .idle).setTable t) := .of_events rfl
    split
    · exact (filled.trans (.count (by decide) _)).trans (.commitSucceeds _ _)
    · exact .of_events rfl
  · exact .refl _

theorem Reported.sparesLowTest_mapChange (s : State) : Reported s s.sparesLowTest.mapChange := by
  have test : Reported s s.sparesLowTest := by
    unfold State.sparesLowTest
    split
    · exact .raise_of _ rfl
    · exact .refl _
  exact test.trans (.of_events (by rw [State.mapChange_eq]; rfl))

theorem Reported.remapTo (page n : Nat) (s : State) : Reported s (s.remapTo page n) := by
  have change : Reported s (s.setRemap (remapChange page n s.remap)) := .of_events rfl
  exact ((change.trans (.raise .remap _)).trans (.count (c := .remaps) (by decide) _)).trans (.sparesLowTest_mapChange _)

theorem Reported.giveUpTarget (r : CommitRecord) (s : State) : Reported s (s.giveUpTarget r) := by
  unfold State.giveUpTarget
  split
  · rename_i n _ _
    have change : Reported s (s.setRemap (retireChange n s.remap)) := .of_events rfl
    exact change.trans (.sparesLowTest_mapChange _)
  · exact .refl _

theorem Reported.verifyReadDone (s : State) : Reported s s.verifyReadDone := by
  unfold State.verifyReadDone State.verifyDone
  split
  · rename_i page r _ _
    have idle : Reported s (s.setPort .idle) := .of_events rfl
    refine idle.trans ?_
    generalize s.setPort .idle = u
    split
    · unfold State.verifyMatches
      split
      · exact (Reported.remapTo _ _ u).trans (.commitSucceeds _ _)
      · exact .commitSucceeds _ _
    · have counted : Reported u (u.count .verifyFails) := .count (by decide) u
      simp only [State.verifyMismatch]
      split
      · exact (counted.trans (.offer _ _ _)).trans (.of_events rfl)
      · have given := counted.trans (.giveUpTarget r _)
        split
        · exact (given.trans (.offer _ _ _)).trans (.of_events rfl)
        · exact ((given.trans (.raise .spout _)).trans (.offerUnordered _ _)).trans (.commitPinned _ _)
  · exact .refl _

theorem Reported.mapVerifyReadDone (s : State) : Reported s s.mapVerifyReadDone := by
  unfold State.mapVerifyReadDone State.mapVerified
  split
  · rename_i page j _ _
    have idle : Reported s (s.setPort .idle) := .of_events rfl
    split
    · split <;> exact .of_events rfl
    · exact ((idle.trans (.raise .mstale _)).trans (.offer _ _ _)).trans (.of_events rfl)
  · exact .refl _

theorem Reported.hostByteDone (s : State) : Reported s s.hostByteDone := by
  unfold State.hostByteDone State.byteReadDone
  split
  · have idle : Reported s (s.setPort .idle) := .of_events rfl
    split
    · exact idle.trans (.endRead _ _)
    · exact idle
  · exact .refl _

theorem Reported.enterHoldup (s : State) : Reported s s.enterHoldup := by
  simp only [State.enterHoldup]
  generalize promoteAll (settlingByAge s.time.stamp s.table) s.table = t
  have promoted : Reported s ((s.setMode .holdup).setTable t) := .of_events rfl
  refine Reported.trans ?_ (.placeStart _)
  split
  · exact (promoted.trans (.dropWrite _ _ _ _)).trans (.of_events rfl)
  · exact .of_events rfl

theorem Reported.expire (e : Expiry) (s : State) : Reported s (s.expire e) := by
  cases e with
  | quiet i => exact .of_events (congrArg State.events (State.quietExpires_frame i s) :)
  | age i => exact .of_events (congrArg State.events (State.ageExpires_frame i s) :)
  | stall => exact .stallExpires s
  | programLimit =>
    show Reported s s.programTimesOut
    unfold State.programTimesOut
    split
    · exact .enterFault _ s
    · exact .refl _
  | ready => exact (Reported.of_events (s := s) (t := s.bootOver) rfl).trans (.enterFault _ _)

/-- Every follow-on row but a waiting write taken again reports only what it should. -/
theorem Reported.follow {f : FollowOn} (other : f ≠ .waitingWriteTakenAgain) (s : State) : Reported s (s.follow f) := by
  cases f
  case waitingWriteTakenAgain => exact absurd rfl other
  case clockStageEnd => exact .of_events (congrArg State.events (State.startReady_frame s) :)
  case syncComplete => exact .raise_of _ rfl
  case saveComplete =>
    show Reported s s.finishSave
    unfold State.finishSave
    split
    · exact .raise_of _ rfl
    · exact .of_events rfl
  case persistJobStart => exact .of_events rfl
  case pressure => exact .of_events (congrArg State.events (State.applyPressure_frame s) :)
  case byteReadGrant => exact .of_events (congrArg State.events (State.grantByteRead_frame s) :)
  case mapStoreStepGrant => exact .of_events (congrArg State.events (State.grantMapStep_frame s) :)
  case snapshot => exact .of_events (congrArg State.events (State.takeSnapshot_frame s) :)
  case programClaimGrant =>
    show Reported s s.grantProgram
    unfold State.grantProgram
    split
    · exact .refl _
    · refine Reported.trans ?_ (.count (by decide) _)
      exact .of_events rfl
  case verifyClaimGrant => exact .of_events (congrArg State.events (State.grantVerify_frame s) :)
  case flushDone => exact .raise_of _ rfl

theorem follow_flags (f : FollowOn) (s : State) : flagsKept s.events (s.follow f).events := by
  by_cases write : f = .waitingWriteTakenAgain
  · subst write
    show flagsKept s.events s.retakeWrite.events
    unfold State.retakeWrite
    split
    · exact fun f h => h
    · rename_i a d _
      cases takes : s.takeResolvedWrite a d with
      | none => exact fun f h => h
      | some t => exact takeResolvedWrite_flags takes
  · exact (Reported.follow write s).flags

/-- The commands of the link but CLEAR_EVENTS keep the flags, and all but CLEAR_COUNTERS the counter. -/
theorem takeEffect_reported (c : Command) (args : List Byte) (s : State) :
    (c ≠ .clearEvents → flagsKept s.events (s.takeEffect c args).events) ∧
      (c ≠ .clearCounters → acceptedStands s.events (s.takeEffect c args).events) := by
  have both : ∀ {t}, Reported s t → (c ≠ .clearEvents → flagsKept s.events t.events) ∧
      (c ≠ .clearCounters → acceptedStands s.events t.events) := fun r => ⟨fun _ => r.flags, fun _ => r.accepted⟩
  obtain ⟨f, e | ⟨-, e⟩⟩ := State.takeEffect_cases c args s <;> rw [e]
  · exact both (t := s.setFrame f) (.of_events rfl)
  · show (c ≠ .clearEvents → flagsKept s.events (commandReply c args s).after.events) ∧
      (c ≠ .clearCounters → acceptedStands s.events (commandReply c args s).after.events)
    cases c
    case clearEvents => exact ⟨fun h => absurd rfl h, fun _ => rfl⟩
    case clearCounters => exact ⟨fun _ _ h => h, fun h => absurd rfl h⟩
    case sync =>
      refine both ?_
      simp only [commandReply, replySync]
      split
      · exact .refl _
      · simp only [answer]
        generalize syncTable s.table = t
        refine Reported.trans ?_ (.placeStart _)
        split
        · exact .raise_of _ rfl
        · exact .of_events rfl
    case save =>
      refine both ?_
      simp only [commandReply, replySave]
      split
      · exact .raise_of _ rfl
      · simp only [answer]
        rw [State.refreshFlush_frame]
        exact .of_events rfl
    case rearm =>
      refine both ?_
      simp only [commandReply, replyRearm]
      split
      · exact .refl _
      · simp only [answer]
        rw [State.refreshFlush_frame, State.placeStart_frame]
        exact .of_events rfl
    case setConfig =>
      refine both ?_
      simp only [commandReply, replySetConfig]
      split
      · exact .refl _
      · rename_i i _
        split
        · exact .refl _
        · split
          · exact .refl _
          · split
            · exact .refl _
            · simp only [answer]
              rw [State.configChange_eq]
              cases i <;> exact .of_events rfl
    case setRegion =>
      refine both ?_
      simp only [commandReply, replySetRegion]
      split
      · exact .refl _
      · split
        · split
          · simp only [answer]
            rw [State.configChange_eq]
            exact .of_events rfl
          · exact .refl _
        · exact .refl _
    case getCounter =>
      refine both ?_
      simp only [commandReply, replyGetCounter]
      split
      · exact .refl _
      · split <;> exact .refl _
    case queryPage =>
      refine both ?_
      simp only [commandReply, replyQueryPage]
      split <;> exact .refl _
    case readRecord =>
      refine both ?_
      simp only [commandReply, replyReadRecord]
      split <;> exact .refl _
    case getConfig =>
      refine both ?_
      simp only [commandReply, replyGetConfig]
      split
      · exact .refl _
      · split
        · exact .refl _
        · split <;> exact .refl _
    case getId | getStatus | getEvents | getCapture => exact both (t := s) (.refl _)
    case setEnables | releaseCapture => exact ⟨fun _ _ h => h, fun _ => rfl⟩

/-- A row that is no LINK_BYTE carries out its own command alone. -/
theorem carriesOut_row {c : Instr} {k : Command} (carries : carriesOut c k) (link : ¬ isLinkByte c) :
    ∃ b, c = commandRow k b := carries.resolve_left link

/-! ### O52: flags -/

theorem keeps_flags {c : Instr} (resets : ¬ assertsReset c) (link : ¬ isLinkByte c) (clears : ∀ b, c ≠ .clearEvents b)
    (e : EventUnit) : Keeps c fun s => flagsKept e s.events := by
  have on : ∀ {s t : State}, flagsKept e s.events → flagsKept s.events t.events → flagsKept e t.events :=
    fun a b f h => b f (a f h)
  exact {
    follow := fun f s h _ => on h (follow_flags f s)
    expire := fun x s _ h _ _ => on h (Reported.expire x s).flags
    tick := fun _ s h _ => by rw [State.tick_frame]; exact h
    powerOn := fun row => absurd (.inl row) resets
    rst := fun row => absurd (.inr row) resets
    release := fun _ _ _ _ h _ => h
    host := fun _ _ h _ => h
    pfw := fun _ _ h => h
    frame := fun _ _ _ h => h
    arriveWrite := fun a d _ s h _ => on h (arriveWrite_flags a d s)
    arriveRead := fun a _ s h _ => on h (Reported.arriveRead a s).flags
    fill := fun _ s h _ => on h (Reported.fillReadDone s).flags
    program := fun r _ s h _ => by rw [State.programDone_frame]; exact h
    verify := fun _ s h _ => on h (Reported.verifyReadDone s).flags
    hostByte := fun _ s h _ => on h (Reported.hostByteDone s).flags
    mapVerify := fun _ s h _ => on h (Reported.mapVerifyReadDone s).flags
    mrdy := fun r _ s h _ => by rw [State.mrdyHigh_frame]; exact h
    load := fun _ s h _ => on h (loadReadDone_flags s)
    enterHoldup := fun _ s h _ _ => on h (Reported.enterHoldup s).flags
    leaveHoldup := fun _ _ h _ _ => h
    command := fun k args carries s h _ => by
      obtain ⟨b, row⟩ := carriesOut_row carries link
      refine on h ((takeEffect_reported k args s).1 ?_)
      rintro rfl
      exact clears b row }

/-- Settles O52: what a row runs only sets flags, CLEAR_EVENTS and the resets apart. -/
theorem setFlagStaysSetUntilClearedOrReset : Obligations.SetFlagStaysSetUntilClearedOrReset :=
  fun _ s _ f step resets link clears set =>
    exec_keeps (keeps_flags resets link clears s.events) (fun _ h => h) step f set

/-! ### After boot -/

/-- Of the follow-on rows the end of CLOCK alone moves the boot loader. -/
theorem State.follow_boot {f : FollowOn} (other : f ≠ .clockStageEnd) (s : State) : (s.follow f).boot = s.boot := by
  cases f
  case clockStageEnd => exact absurd rfl other
  case syncComplete | persistJobStart | flushDone => rfl
  case saveComplete => exact (congrArg State.boot (State.finishSave_frame s) :)
  case waitingWriteTakenAgain => exact (congrArg State.boot (State.retakeWrite_frame s) :)
  case pressure => exact (congrArg State.boot (State.applyPressure_frame s) :)
  case byteReadGrant => exact (congrArg State.boot (State.grantByteRead_frame s) :)
  case mapStoreStepGrant => exact (congrArg State.boot (State.grantMapStep_frame s) :)
  case snapshot => exact (congrArg State.boot (State.takeSnapshot_frame s) :)
  case programClaimGrant => exact (congrArg State.boot (State.grantProgram_frame s) :)
  case verifyClaimGrant => exact (congrArg State.boot (State.grantVerify_frame s) :)

theorem State.follow_booted {f : FollowOn} {s : State} (b : booted s) (due : s.due = some f) : booted (s.follow f) := by
  have other : f ≠ .clockStageEnd := by
    rintro rfl
    have clock : s.boot.stage = .clock 0 := by simpa [clockStageEndDue] using (State.due_spec due).2
    rw [b.2] at clock
    cases clock
  exact ⟨(State.follow_inReset f s).trans b.1, by rw [State.follow_boot other]; exact b.2⟩

theorem Untouched.booted {s t : State} (u : Untouched s t) (b : booted s) : booted t := by
  have no : ¬ (t.inReset = true ∨ t.boot.stage ≠ .ended) := by
    intro c
    rcases u.boot c with reset | running
    · rw [b.1] at reset; cases reset
    · exact running b.2
  exact ⟨by simpa using fun r => no (.inl r), Decidable.of_not_not fun r => no (.inr r)⟩

theorem State.loadReadDone_of_booted {s : State} (b : booted s) : s.loadReadDone = s := by
  unfold State.loadReadDone
  split
  · rename_i stage; rw [b.2] at stage; cases stage
  · rfl

theorem State.mrdyHigh_of_booted {s : State} (b : booted s) (r : ProgramResult) : s.mrdyHigh r = s := by
  unfold State.mrdyHigh
  split
  · rename_i stage; rw [b.2] at stage; cases stage
  · rfl

theorem readyExpired_of_booted {s : State} (b : booted s) : readyExpired s = false := by
  unfold readyExpired
  rw [b.2]
  rfl

theorem State.tick_booted {s : State} (b : booted s) : booted s.tick := (Untouched.tick s).booted b

/-! ### O53: the map's records -/

/-- S and Lcap stay, and every record has one with its spare index, the same when it is RETIRED. -/
structure MapGrows (m m' : RemapUnit) : Prop where
  spares : m'.spares = m.spares
  capacity : m'.capacity = m.capacity
  kept : ∀ x ∈ m.records, ∃ x' ∈ m'.records, x'.spare = x.spare ∧ (x.kind = .retired → x' = x)

theorem MapGrows.of_same {m m' : RemapUnit} (same : sameMap m' m) : MapGrows m m' := by
  rw [same]
  exact ⟨rfl, rfl, fun x mem => ⟨x, mem, rfl, fun _ => rfl⟩⟩

theorem MapGrows.trans {m m' m'' : RemapUnit} (a : MapGrows m m') (b : MapGrows m' m'') : MapGrows m m'' where
  spares := b.spares.trans a.spares
  capacity := b.capacity.trans a.capacity
  kept x mem := by
    obtain ⟨x', mem', spare', same'⟩ := a.kept x mem
    obtain ⟨x'', mem'', spare'', same''⟩ := b.kept x' mem'
    refine ⟨x'', mem'', spare''.trans spare', fun retired => ?_⟩
    obtain rfl := same' retired
    exact same'' retired

theorem MapGrows.confirmed (r : CommitRecord) (m : RemapUnit) : MapGrows m (confirmed r m) := by
  unfold Machine.confirmed
  split
  · refine ⟨rfl, rfl, fun x mem => ⟨retireOld r.page x, mem_remapChange.mpr (.inr ⟨x, mem, rfl⟩), retireOld_spare _ _, ?_⟩⟩
    intro retired
    exact retireOld_of_ne fun c => by rw [retired] at c; cases c.1
  · exact .of_same rfl

theorem MapGrows.givenUp (r : CommitRecord) (m : RemapUnit) : MapGrows m (givenUp r m) := by
  unfold Machine.givenUp
  split
  · exact ⟨rfl, rfl, fun x mem => ⟨x, mem_placeRecord.mpr (.inr mem), rfl, fun _ => rfl⟩⟩
  · exact .of_same rfl

theorem MapGrows.verifyReadDone (s : State) : MapGrows s.remap s.verifyReadDone.remap := by
  rcases State.verifyReadDone_ends s with same | ⟨r, -, -, ends, -⟩
  · rw [same]; exact .of_same rfl
  · rcases ends with ⟨-, map⟩ | ⟨-, map⟩ | ⟨map, -⟩
    · exact (MapGrows.confirmed r s.remap).trans (.of_same map)
    · exact .of_same map
    · exact (MapGrows.givenUp r s.remap).trans (.of_same map)

/-- Boot is over, the map has grown from `m`, and but for VERIFY_COMPLETE it has `m`'s records. -/
structure RecordsKept (c : Instr) (m : RemapUnit) (s : State) : Prop where
  booted : booted s
  grows : MapGrows m s.remap
  same : c ≠ .verifyComplete → s.remap.records = m.records

theorem RecordsKept.of_map {c : Instr} {m : RemapUnit} {s t : State} (h : RecordsKept c m s) (b : Machine.booted t)
    (map : sameMap t.remap s.remap) : RecordsKept c m t :=
  ⟨b, h.grows.trans (.of_same map), fun other => by rw [map]; exact h.same other⟩

theorem keeps_records {c : Instr} (resets : ¬ assertsReset c) (m : RemapUnit) : Keeps c (RecordsKept c m) := by
  have still : ∀ {s t : State}, RecordsKept c m s → Untouched s t → RecordsKept c m t :=
    fun h u => h.of_map (u.booted h.booted) u.map
  exact {
    follow := fun f s h due =>
      h.of_map (State.follow_booted h.booted due) (by rw [State.follow_frame]; exact sameMap_refl _)
    expire := fun e s _ h _ _ => still h (.expire e s)
    tick := fun _ s h _ => still h (.tick s)
    powerOn := fun row => absurd (.inl row) resets
    rst := fun row => absurd (.inr row) resets
    release := fun _ _ _ s h reset => by rw [h.booted.1] at reset; cases reset
    host := fun _ _ h _ => still h (.of_same rfl rfl)
    pfw := fun _ _ h => still h (.of_same rfl rfl)
    frame := fun _ _ _ h => still h (.of_same rfl rfl)
    arriveWrite := fun a d _ s h _ => still h (.arriveWrite a d s)
    arriveRead := fun a _ s h _ => still h (.arriveRead a s)
    fill := fun _ s h _ => still h (.fillReadDone s)
    program := fun r _ s h _ => still h (.programDone r s)
    verify := fun row s h _ =>
      ⟨⟨by rw [State.verifyReadDone_frame]; exact h.booted.1, by rw [State.verifyReadDone_frame]; exact h.booted.2⟩,
        h.grows.trans (.verifyReadDone s), fun other => absurd row other⟩
    hostByte := fun _ s h _ => still h (.hostByteDone s)
    mapVerify := fun _ s h _ => by
      refine h.of_map ⟨?_, ?_⟩ ?_
      · rw [State.mapVerifyReadDone_frame]; exact h.booted.1
      · rw [State.mapVerifyReadDone_frame]; exact h.booted.2
      · rw [State.mapVerifyReadDone_frame]; exact sameMap_refl _
    mrdy := fun r _ s h _ => still h (.mrdyHigh r s)
    load := fun _ s h _ => by rw [State.loadReadDone_of_booted h.booted]; exact h
    enterHoldup := fun _ s h _ _ => still h (.enterHoldup s)
    leaveHoldup := fun _ _ h _ _ => still h (.of_same rfl rfl)
    command := fun k args _ s h _ => still h (.takeEffect k args s) }

/-- Settles O53: after boot only the end of a commit's verify changes the list, by the REMAP or the RETIRE change. -/
theorem mapRecordsAreNeverRemoved : Obligations.MapRecordsAreNeverRemoved := by
  intro c s t step resets up ended
  have start : RecordsKept c s.remap s := ⟨⟨up, ended⟩, .of_same rfl, fun _ => rfl⟩
  have after := exec_keeps (keeps_records resets s.remap) start step
  exact ⟨after.grows.spares, after.grows.capacity, after.same, after.grows.kept⟩

/-! ### O54: FAULT -/

/-- FAULT after boot, the port FAULTED, no job, no flush, the PNV as it was. -/
structure InFault (pnv : Pnv) (s : State) : Prop where
  booted : booted s
  mode : s.mode = .fault
  port : s.port = .faulted
  pnv : s.pnv = pnv
  job : s.store.job = none
  flush : s.flush = .none

/-- Nothing but table, host port, link, events and the job's own fields changes. -/
theorem InFault.of_same {pnv : Pnv} {s t : State} (h : InFault pnv s)
    (e : t = { s with
      pending := t.pending, time := t.time, host := t.host, regions := t.regions, cfg := t.cfg, table := t.table
      ce := t.ce, remap := t.remap, store := t.store, pfw := t.pfw, link := t.link, events := t.events
      choices := t.choices })
    (job : t.store.job = s.store.job) : InFault pnv t := by
  generalize t.pending = q at e
  generalize t.time = time at e
  generalize t.host = host at e
  generalize t.regions = regions at e
  generalize t.cfg = cfg at e
  generalize t.table = table at e
  generalize t.ce = ce at e
  generalize t.remap = remap at e
  generalize t.store = store at e job
  generalize t.pfw = pfw at e
  generalize t.link = link at e
  generalize t.events = events at e
  generalize t.choices = choices at e
  subst e
  exact ⟨h.booted, h.mode, h.port, h.pnv, job.trans h.job, h.flush⟩

theorem InFault.follow {pnv : Pnv} {s : State} (h : InFault pnv s) {f : FollowOn} (due : s.due = some f) :
    InFault pnv (s.follow f) := by
  obtain ⟨-, spec⟩ := State.due_spec due
  have noGrant : ∀ {g}, grantDue s ≠ some g := by
    intro g e
    have := grantDue_port e
    rw [h.port] at this
    cases this
  cases f
  case clockStageEnd =>
    have clock : s.boot.stage = .clock 0 := by simpa [clockStageEndDue] using spec
    rw [h.booted.2] at clock
    cases clock
  case syncComplete => exact h.of_same rfl rfl
  case saveComplete =>
    show InFault pnv s.finishSave
    unfold State.finishSave
    split <;> exact h.of_same rfl rfl
  case persistJobStart => simp [persistJobStartDue, h.mode] at spec
  case waitingWriteTakenAgain =>
    show InFault pnv s.retakeWrite
    rw [State.retakeWrite_frame]
    exact h.of_same rfl rfl
  case pressure =>
    show InFault pnv s.applyPressure
    rw [State.applyPressure_frame]
    exact h.of_same rfl rfl
  case byteReadGrant | mapStoreStepGrant | snapshot | programClaimGrant | verifyClaimGrant => exact absurd spec noGrant
  case flushDone => simp [flushDoneDue, h.mode] at spec

theorem InFault.expire {pnv : Pnv} {s : State} (h : InFault pnv s) {e : Expiry} (waits : expiryWaits e s) :
    InFault pnv (s.expire e) := by
  cases e with
  | quiet i =>
    show InFault pnv (s.quietExpires i)
    rw [State.quietExpires_frame]
    exact h.of_same rfl rfl
  | age i =>
    show InFault pnv (s.ageExpires i)
    rw [State.ageExpires_frame]
    exact h.of_same rfl rfl
  | stall =>
    show InFault pnv s.stallExpires
    rw [State.stallExpires_frame]
    exact h.of_same rfl rfl
  | programLimit =>
    have expired : programLimitExpired s.port = true := waits
    rw [h.port] at expired
    cases expired
  | ready =>
    have expired : readyExpired s = true := waits
    rw [readyExpired_of_booted h.booted] at expired
    cases expired

theorem commandReply_flush (c : Command) (args : List Byte) {s : State} (none : s.flush = .none) :
    (commandReply c args s).after.flush = .none := by
  have refresh : ∀ u : State, u.flush = .none → u.refreshFlush.flush = .none := by
    intro u none
    unfold State.refreshFlush
    rw [if_neg (by rw [none]; simp)]
    exact none
  by_cases reads : c ≠ .sync ∧ c ≠ .save ∧ c ≠ .rearm ∧ c ≠ .setConfig ∧ c ≠ .setRegion
  · rw [commandReply_after args s reads]
    exact none
  · cases c
    case sync =>
      simp only [commandReply, replySync]
      split
      · exact none
      · simp only [answer]
        rw [State.placeStart_frame]
        split <;> exact none
    case save =>
      simp only [commandReply, replySave]
      split
      · exact none
      · exact refresh _ none
    case rearm =>
      simp only [commandReply, replyRearm]
      split
      · exact none
      · refine refresh _ ?_
        rw [State.placeStart_frame]
        exact none
    case setConfig =>
      simp only [commandReply, replySetConfig]
      split
      · exact none
      · rename_i i _
        split
        · exact none
        · split
          · exact none
          · split
            · exact none
            · simp only [answer]
              rw [State.configChange_eq]
              cases i <;> exact none
    case setRegion =>
      simp only [commandReply, replySetRegion]
      split
      · exact none
      · split
        · split
          · simp only [answer]
            rw [State.configChange_eq]
            exact none
          · exact none
        · exact none
    all_goals exact absurd (by decide) reads

theorem InFault.takeEffect {pnv : Pnv} {s : State} (h : InFault pnv s) (c : Command) (args : List Byte) :
    InFault pnv (s.takeEffect c args) := by
  have job : (s.takeEffect c args).store.job = none := by
    cases job : (s.takeEffect c args).store.job with
    | none => rfl
    | some j =>
      obtain ⟨j', job', -⟩ := (Untouched.takeEffect c args s).job j job
      rw [h.job] at job'
      cases job'
  have flush : (s.takeEffect c args).flush = .none := by
    obtain ⟨f, e | ⟨-, e⟩⟩ := State.takeEffect_cases c args s <;> rw [e]
    · exact h.flush
    · exact commandReply_flush c args h.flush
  have frame := State.takeEffect_frame c args s
  generalize s.takeEffect c args = t at job flush frame
  rw [frame]
  exact ⟨h.booted, h.mode, h.port, h.pnv, job, flush⟩

theorem keeps_inFault {c : Instr} (resets : ¬ assertsReset c) (pnv : Pnv) : Keeps c (InFault pnv) where
  follow _ _ h due := h.follow due
  expire _ _ _ h _ waits := h.expire waits
  tick _ s h _ := by
    have port : s.tick.port = .faulted := by
      simp only [State.tick]
      split
      · exact h.port
      · show tickPort s.port = .faulted
        rw [h.port]; rfl
    have b := State.tick_booted h.booted
    have frame := State.tick_frame s
    generalize s.tick = t at port b frame
    exact ⟨b, by rw [frame]; exact h.mode, port, by rw [frame]; exact h.pnv, by rw [frame]; exact h.job,
      by rw [frame]; exact h.flush⟩
  powerOn row := absurd (.inl row) resets
  rst row := absurd (.inr row) resets
  release _ _ _ s h reset := by rw [h.booted.1] at reset; cases reset
  host _ _ h _ := h.of_same rfl rfl
  pfw _ _ h := h.of_same rfl rfl
  frame _ _ _ h := h.of_same rfl rfl
  arriveWrite a d _ s h _ := by rw [State.arriveWrite_frame]; exact h.of_same rfl rfl
  arriveRead a _ s h _ := by rw [State.arriveRead_frame]; exact h.of_same rfl rfl
  fill _ s h _ := by simp only [State.fillReadDone, h.port]; exact h
  program r _ s h _ := by simp only [State.programDone, h.port, State.unseenRise, h.booted.2]; exact h
  verify _ s h _ := by simp only [State.verifyReadDone, h.port]; exact h
  hostByte _ s h _ := by simp only [State.hostByteDone, h.port]; exact h
  mapVerify _ s h _ := by simp only [State.mapVerifyReadDone, h.port]; exact h
  mrdy r _ s h _ := by rw [State.mrdyHigh_of_booted h.booted]; exact h
  load _ s h _ := by rw [State.loadReadDone_of_booted h.booted]; exact h
  enterHoldup _ _ h _ run := by rw [h.mode] at run; cases run
  leaveHoldup _ _ h _ holdup := by rw [h.mode] at holdup; cases holdup
  command k args _ _ h _ := h.takeEffect k args

/-- Settles O54: in FAULT after boot no grant, no completion and no expiry of the port comes about. -/
theorem faultIsLeftByResetAlone : Obligations.FaultIsLeftByResetAlone := by
  intro c s t step resets up mode ended port job flush
  have after := exec_keeps (keeps_inFault resets s.pnv) ⟨⟨up, ended⟩, mode, port, rfl, job, flush⟩ step
  exact ⟨after.mode, after.port, after.pnv, after.job, after.flush⟩

/-! ### O55: no write is accepted in HOLDUP -/

/-- HOST_WRITES_ACCEPTED stands and no write waits; boot is over unless the row is RST, and the mode is HOLDUP where the
row is a HOST_WRITE. -/
structure NoWrite (c : Instr) (e : EventUnit) (s : State) : Prop where
  accepted : acceptedStands e s.events
  waits : waitingWrite s.host = none
  mode : (∃ a d, c = .hostWrite a d) → s.mode = .holdup
  booted : c = .rst ∨ booted s

theorem NoWrite.of_same {c : Instr} {e : EventUnit} {s t : State} (h : NoWrite c e s)
    (accepted : acceptedStands s.events t.events)
    (waits : waitingWrite t.host = none ∨ waitingWrite t.host = waitingWrite s.host) (mode : t.mode = s.mode)
    (b : Machine.booted s → Machine.booted t) : NoWrite c e t :=
  ⟨accepted.trans h.accepted, waits.elim id fun same => same.trans h.waits, fun row => mode.trans (h.mode row),
    h.booted.imp id b⟩

theorem NoWrite.follow {c : Instr} {e : EventUnit} {s : State} (h : NoWrite c e s) {f : FollowOn}
    (due : s.due = some f) : NoWrite c e (s.follow f) := by
  have other : f ≠ .waitingWriteTakenAgain := by
    rintro rfl
    have spec : waitingWriteDue s = true := (State.due_spec due).2
    rw [waitingWriteDue, h.waits] at spec
    simp at spec
  refine h.of_same (Reported.follow other s).accepted ?_ (State.follow_mode f s) fun b => State.follow_booted b due
  cases f
  case waitingWriteTakenAgain => exact absurd rfl other
  case byteReadGrant =>
    left
    show waitingWrite s.grantByteRead.host = none
    unfold State.grantByteRead
    split
    · exact h.waits
    · rename_i a read
      obtain ⟨⟨access', addr, limit, left, wait⟩, pend, access, -⟩ := waitingRead_eq_some read
      cases access
      simp [State.setPort, State.setWait, State.setHost, waitingWrite, pend]
  case syncComplete | persistJobStart | flushDone => exact .inr rfl
  case clockStageEnd => exact .inr (congrArg (fun t : State => waitingWrite t.host) (State.startReady_frame s) :)
  case saveComplete => exact .inr (congrArg (fun t : State => waitingWrite t.host) (State.finishSave_frame s) :)
  case pressure => exact .inr (congrArg (fun t : State => waitingWrite t.host) (State.applyPressure_frame s) :)
  case mapStoreStepGrant => exact .inr (congrArg (fun t : State => waitingWrite t.host) (State.grantMapStep_frame s) :)
  case snapshot => exact .inr (congrArg (fun t : State => waitingWrite t.host) (State.takeSnapshot_frame s) :)
  case programClaimGrant => exact .inr (congrArg (fun t : State => waitingWrite t.host) (State.grantProgram_frame s) :)
  case verifyClaimGrant => exact .inr (congrArg (fun t : State => waitingWrite t.host) (State.grantVerify_frame s) :)

theorem State.expire_waiting (e : Expiry) (s : State) :
    waitingWrite (s.expire e).host = none ∨ waitingWrite (s.expire e).host = waitingWrite s.host := by
  cases e with
  | quiet i => exact .inr (congrArg (fun t : State => waitingWrite t.host) (State.quietExpires_frame i s) :)
  | age i => exact .inr (congrArg (fun t : State => waitingWrite t.host) (State.ageExpires_frame i s) :)
  | stall =>
    show waitingWrite s.stallExpires.host = none ∨ waitingWrite s.stallExpires.host = _
    unfold State.stallExpires
    split
    · exact .inr rfl
    · split <;> exact .inl rfl
  | programLimit =>
    show waitingWrite s.programTimesOut.host = none ∨ waitingWrite s.programTimesOut.host = _
    unfold State.programTimesOut
    split
    · exact State.enterFault_waiting _ s
    · exact .inr rfl
  | ready => exact State.enterFault_waiting _ s.bootOver

theorem keeps_noWrite {c : Instr} (powerOn : c ≠ .powerOnReset) (clears : c ≠ .clearCounters) (link : ¬ isLinkByte c)
    (e : EventUnit) : Keeps c (NoWrite c e) := by
  have ended : ∀ {s : State}, NoWrite c e s → c ≠ .rst → booted s := fun h other => h.booted.resolve_left other
  exact {
    follow := fun _ _ h due => h.follow due
    expire := fun x s row h _ _ =>
      ⟨(Reported.expire x s).accepted.trans h.accepted, (State.expire_waiting x s).elim id fun same => same.trans h.waits,
        fun ⟨a, d, write⟩ => (by
          rcases row with row | row <;> rw [write] at row
          · cases row
          · cases x <;> cases row),
        h.booted.imp id (Untouched.expire x s).booted⟩
    tick := fun row s h _ =>
      h.of_same (by rw [State.tick_frame]; rfl) (.inr (by rw [State.tick_frame]; exact tickStall_waiting s.host))
        (by rw [State.tick_frame]) State.tick_booted
    powerOn := fun row => absurd row powerOn
    rst := fun row s h => ⟨h.accepted, rfl, fun ⟨a, d, write⟩ => (by rw [row] at write; cases write), .inl row⟩
    release := fun m p row s h reset => by
      have b := ended h (by rw [row]; nofun)
      rw [b.1] at reset
      cases reset
    host := fun p s h pend => h.of_same rfl (.inr (waitingWrite_congr pend)) rfl id
    pfw := fun v s h => h.of_same rfl (.inr rfl) rfl id
    frame := fun lcs f s h => h.of_same rfl (.inr rfl) rfl id
    arriveWrite := fun a d row s h _ => by
      have drops : s.arriveWrite a d = s.dropWrite .hdrop .hdrop a := by
        simp only [State.arriveWrite, h.mode ⟨a, d, row⟩]
      rw [drops]
      exact h.of_same (Reported.dropWrite _ _ _ _).accepted (.inl rfl) rfl id
    arriveRead := fun a row s h _ => by
      have waits : waitingWrite (s.arriveRead a).host = none := by
        unfold State.arriveRead
        split
        · rfl
        · exact (State.takeRead_getD_pages rfl).2
      exact h.of_same (Reported.arriveRead a s).accepted (.inl waits) (by rw [State.arriveRead_frame])
        (Untouched.arriveRead a s).booted
    fill := fun _ s h _ => h.of_same (Reported.fillReadDone s).accepted (.inr (by rw [State.fillReadDone_frame]))
      (by rw [State.fillReadDone_frame]) (Untouched.fillReadDone s).booted
    program := fun r _ s h _ => h.of_same (by rw [State.programDone_frame]; rfl)
      (.inr (by rw [State.programDone_frame])) (by rw [State.programDone_frame]) (Untouched.programDone r s).booted
    verify := fun _ s h _ => h.of_same (Reported.verifyReadDone s).accepted (.inr (by rw [State.verifyReadDone_frame]))
      (by rw [State.verifyReadDone_frame])
      fun b => ⟨by rw [State.verifyReadDone_frame]; exact b.1, by rw [State.verifyReadDone_frame]; exact b.2⟩
    hostByte := fun _ s h _ => by
      refine h.of_same (Reported.hostByteDone s).accepted ?_ (by rw [State.hostByteDone_frame])
        (Untouched.hostByteDone s).booted
      unfold State.hostByteDone State.byteReadDone
      split
      · split
        · exact .inl rfl
        · exact .inr rfl
      · exact .inr rfl
    mapVerify := fun _ s h _ => h.of_same (Reported.mapVerifyReadDone s).accepted
      (.inr (by rw [State.mapVerifyReadDone_frame])) (by rw [State.mapVerifyReadDone_frame])
      fun b => ⟨by rw [State.mapVerifyReadDone_frame]; exact b.1, by rw [State.mapVerifyReadDone_frame]; exact b.2⟩
    mrdy := fun r row s h _ => by rw [State.mrdyHigh_of_booted (ended h (by rw [row]; nofun))]; exact h
    load := fun row s h _ => by rw [State.loadReadDone_of_booted (ended h (by rw [row]; nofun))]; exact h
    enterHoldup := fun row s h _ _ =>
      ⟨(Reported.enterHoldup s).accepted.trans h.accepted, (by
        simp only [State.enterHoldup]
        rw [State.placeStart_frame]
        split
        · rfl
        · exact h.waits),
        fun ⟨a, d, write⟩ => (by rw [row] at write; cases write), h.booted.imp id (Untouched.enterHoldup s).booted⟩
    leaveHoldup := fun row s h _ _ =>
      ⟨h.accepted, h.waits, fun ⟨a, d, write⟩ => (by rw [row] at write; cases write), h.booted⟩
    command := fun k args carries s h _ => by
      obtain ⟨b, row⟩ := carriesOut_row carries link
      have other : k ≠ .clearCounters := by
        rintro rfl
        exact clears row
      exact h.of_same ((takeEffect_reported k args s).2 other) (.inr (by rw [State.takeEffect_frame]))
        (by rw [State.takeEffect_frame]) (Untouched.takeEffect k args s).booted }

/-- Settles O55: in HOLDUP a HOST_WRITE is dropped, and with no write waiting no other row takes one. -/
theorem noWriteIsAcceptedInHoldup : Obligations.NoWriteIsAcceptedInHoldup := by
  intro c s t step up holdup ended waits powerOn clears link
  have after := exec_keeps (keeps_noWrite powerOn clears link s.events) ⟨rfl, waits, fun _ => holdup, .inr ⟨up, ended⟩⟩ step
  exact ⟨after.accepted, after.waits⟩

end Sys2Proof.Machine
end

section
/-! The resets (O5), and what a host write and a commit's end in success do to the table (O10, O11, O14, O22). -/
namespace Sys2Proof.Machine

/-! ### Resets and release (O5) -/

/-- A program that a reset cuts off (R125, log 6). -/
theorem State.cutOperation_eq (s : State) :
    s.cutOperation.pnv =
        (if isProgramming s.port = true ∧ Config.latchLoadComplete s.choices = false then { s.pnv with busy := none }
          else s.pnv) ∧
      s.cutOperation.choices = s.choices + (if isProgramming s.port = true then 1 else 0) := by
  unfold State.cutOperation
  cases programming : isProgramming s.port with
  | false => exact ⟨rfl, rfl⟩
  | true =>
    cases complete : Config.latchLoadComplete s.choices with
    | false => exact ⟨rfl, rfl⟩
    | true => exact ⟨rfl, rfl⟩

/-- In reset a row from outside moves the pins, and can end a frame (log 20). -/
theorem State.movePin_pins (c : Instr) (s : State) :
    State.movePin c s =
        { s with
          host := { s.host with strobe := (State.movePin c s).host.strobe }, pfw := (State.movePin c s).pfw
          link :=
            { s.link with lcs := (State.movePin c s).link.lcs, frame := (State.movePin c s).link.frame } } ∧
      (s.inReset = true →
        (State.movePin c s).link.frame = s.link.frame ∨ (State.movePin c s).link.frame = .none) := by
  cases c
  case frameBegin =>
    show s.lcsFalls = { s with
          host := { s.host with strobe := s.lcsFalls.host.strobe }, pfw := s.lcsFalls.pfw
          link := { s.link with lcs := s.lcsFalls.link.lcs, frame := s.lcsFalls.link.frame } } ∧
      (s.inReset = true → s.lcsFalls.link.frame = s.link.frame ∨ s.lcsFalls.link.frame = .none)
    unfold State.lcsFalls
    split
    · exact ⟨rfl, fun _ => .inl rfl⟩
    · exact ⟨rfl, fun reset => .inr (by rw [State.setLink_link, reset]; rfl)⟩
  case frameEnd => exact ⟨rfl, fun _ => .inr rfl⟩
  all_goals exact ⟨rfl, fun _ => .inl rfl⟩

/-- A write taken leaves the strobes. -/
theorem State.takeResolvedWrite_strobe {a : HostAddr} {d : Byte} {s t : State}
    (takes : s.takeResolvedWrite a d = some t) : t.host.strobe = s.host.strobe := by
  rcases State.takeResolvedWrite_cases a d s with ⟨-, e⟩ | ⟨-, ⟨r, -, e⟩ | ⟨-, e⟩⟩ <;> rw [e] at takes <;> cases takes
  · rfl
  · rw [State.placeStart_frame]; rfl

/-- The follow-on rows leave the input pins. -/
theorem State.follow_pins (f : FollowOn) (s : State) :
    (s.follow f).host.strobe = s.host.strobe ∧ (s.follow f).pfw = s.pfw ∧ (s.follow f).link.lcs = s.link.lcs := by
  refine ⟨?_, (congrArg State.pfw (State.follow_frame f s) :), ?_⟩
  · cases f
    case waitingWriteTakenAgain =>
      show s.retakeWrite.host.strobe = s.host.strobe
      unfold State.retakeWrite
      split
      · rfl
      · rename_i a d _
        cases takes : s.takeResolvedWrite a d with
        | none => rfl
        | some t => exact State.takeResolvedWrite_strobe takes
    case byteReadGrant =>
      show s.grantByteRead.host.strobe = s.host.strobe
      unfold State.grantByteRead
      split <;> rfl
    case syncComplete | persistJobStart | flushDone => rfl
    case clockStageEnd => exact (congrArg (fun t : State => t.host.strobe) (State.startReady_frame s) :)
    case saveComplete => exact (congrArg (fun t : State => t.host.strobe) (State.finishSave_frame s) :)
    case pressure => exact (congrArg (fun t : State => t.host.strobe) (State.applyPressure_frame s) :)
    case mapStoreStepGrant => exact (congrArg (fun t : State => t.host.strobe) (State.grantMapStep_frame s) :)
    case snapshot => exact (congrArg (fun t : State => t.host.strobe) (State.takeSnapshot_frame s) :)
    case programClaimGrant => exact (congrArg (fun t : State => t.host.strobe) (State.grantProgram_frame s) :)
    case verifyClaimGrant => exact (congrArg (fun t : State => t.host.strobe) (State.grantVerify_frame s) :)
  · cases f
    case saveComplete =>
      show s.finishSave.link.lcs = s.link.lcs
      unfold State.finishSave
      split <;> rfl
    case syncComplete | persistJobStart | flushDone => rfl
    case clockStageEnd => exact (congrArg (fun t : State => t.link.lcs) (State.startReady_frame s) :)
    case waitingWriteTakenAgain => exact (congrArg (fun t : State => t.link.lcs) (State.retakeWrite_frame s) :)
    case byteReadGrant => exact (congrArg (fun t : State => t.link.lcs) (State.grantByteRead_frame s) :)
    case pressure => exact (congrArg (fun t : State => t.link.lcs) (State.applyPressure_frame s) :)
    case mapStoreStepGrant => exact (congrArg (fun t : State => t.link.lcs) (State.grantMapStep_frame s) :)
    case snapshot => exact (congrArg (fun t : State => t.link.lcs) (State.takeSnapshot_frame s) :)
    case programClaimGrant => exact (congrArg (fun t : State => t.link.lcs) (State.grantProgram_frame s) :)
    case verifyClaimGrant => exact (congrArg (fun t : State => t.link.lcs) (State.grantVerify_frame s) :)

/-- Settling leaves the input pins. -/
theorem State.settled_pins (s : State) :
    s.settled.host.strobe = s.host.strobe ∧ s.settled.pfw = s.pfw ∧ s.settled.link.lcs = s.link.lcs := by
  refine State.settled_keeps (P := fun t => t.host.strobe = s.host.strobe ∧ t.pfw = s.pfw ∧ t.link.lcs = s.link.lcs)
    (fun f t h _ => ?_) ⟨rfl, rfl, rfl⟩
  obtain ⟨strobe, pfw, lcs⟩ := State.follow_pins f t
  exact ⟨strobe.trans h.1, pfw.trans h.2.1, lcs.trans h.2.2⟩

theorem State.settled_pending (s : State) : s.settled.pending = s.pending :=
  State.settled_keeps (P := fun t => t.pending = s.pending) (fun f t h _ => (State.follow_pending f t).trans h) rfl

theorem exec_of_inReset {c : Instr} {s : State} (reset : s.inReset = true) (resets : ¬ assertsReset c)
    (releases : ∀ m p, c ≠ .releaseFromReset m p) : exec c s = .next s ∨ exec c s = .next (State.movePin c s) := by
  rcases row_cases c with asserts | ⟨m, p, rfl⟩ | rfl | ⟨f, follows⟩ | plain
  · exact absurd asserts resets
  · exact absurd rfl (releases m p)
  · exact .inl (if_pos reset)
  · rw [exec_of_followOn follows]
    exact .inl (State.followOn_of_due_none (State.due_of_inReset reset) f)
  · rw [exec_of_plainRow plain]
    exact .inr (by rw [if_pos reset])

/-- Settles O5: the reset rows by their definition, and in reset no other row has an effect. -/
theorem resetRowsSetEveryBlock : Obligations.ResetRowsSetEveryBlock := by
  refine ⟨fun s => ?_, fun s rest => ?_, fun msize spare s reset => ?_, fun c s reset resets releases => ?_⟩
  · obtain ⟨pnv, choices⟩ := State.cutOperation_eq s.settled
    obtain ⟨strobe, pfw, lcs⟩ := State.settled_pins s
    show Host.Outcome.next (s.settled.resetBlocks EventUnit.reset) = _
    simp only [State.resetBlocks, pnv, choices, State.settled_pending, strobe, pfw, lcs]
    rfl
  · obtain ⟨pnv, choices⟩ := State.cutOperation_eq s
    show Host.Outcome.next (s.settled.resetBlocks (eventsAfterRst (dirtyCount s.settled.table) s.settled.events)) = _
    rw [rest.settled]
    have lost : (dirtyCount s.table != 0) = decide (0 < dirtyCount s.table) := by
      rw [Bool.eq_iff_iff, bne_iff_ne, decide_eq_true_iff, Nat.pos_iff_ne_zero]
    simp only [State.resetBlocks, pnv, choices, eventsAfterRst, addLoss, lost]
    rfl
  · show (if s.inReset then Host.Outcome.next (s.release msize spare) else .next s.settled) = _
    rw [if_pos reset]
    simp only [State.release, arrivalHolds, Bool.or_eq_true, beq_iff_eq]
    rfl
  · obtain ⟨pins, frame⟩ := State.movePin_pins c s
    rcases exec_of_inReset reset resets releases with same | moved
    · exact ⟨s, same, reset, rfl, .inl rfl⟩
    · exact ⟨_, moved, (State.movePin_inReset c s).trans reset, pins, frame reset⟩

/-! ### Writes (O10, O11) -/

/-- What a promotion on THROUGH does to a table whose entry `i` is SETTLING (R38). -/
theorem promoteIfThrough_settling {p : PolicyRecord} {i : Index} {u : SettleTable}
    (settling : u.entries[i].state = .settling) :
    (∀ j : Index, j ≠ i → (promoteIfThrough p i u).entries[j] = u.entries[j]) ∧
      (promoteIfThrough p i u).entries[i] =
        { u.entries[i] with state := if p.policy = .through then .due else .settling } ∧
      (promoteIfThrough p i u).cleanList = u.cleanList ∧
      (promoteIfThrough p i u).dueQueue = if p.policy = .through then u.dueQueue ++ [i] else u.dueQueue := by
  rcases promoteIfThrough_cases p i u with ⟨through, -, e⟩ | ⟨stays, e⟩ <;> rw [e]
  · rw [if_pos through, if_pos through]
    exact ⟨fun j other => promote_entries_of_ne u other, promote_entries_self u i, rfl, rfl⟩
  · have absorbs : p.policy ≠ .through := fun through => stays ⟨through, settling⟩
    rw [if_neg absorbs, if_neg absorbs, ← settling]
    exact ⟨fun _ _ => rfl, rfl, rfl, rfl⟩

/-- The slot of an admission: the lowest FREE entry, or the head of the clean list (R31). -/
theorem takeSlot_of_first {t : SettleTable} {i : Index}
    (first : (t.entries[i].state = .free ∧ ∀ j : Index, j < i → t.entries[j].state ≠ .free) ∨
      ((∀ j : Index, t.entries[j].state ≠ .free) ∧ t.cleanList.head? = some i)) :
    takeSlot t =
      some (i, { t with cleanList := if t.entries[i].state = .free then t.cleanList else t.cleanList.tail }) := by
  unfold takeSlot
  rcases first with ⟨free, lower⟩ | ⟨none, head⟩
  · rw [firstIndex_eq_some_iff.mpr ⟨by rw [inState, free]; rfl, fun j less => by simpa [inState] using lower j less⟩,
      if_pos free]
  · rw [firstIndex_eq_none_iff.mpr fun j => by simpa [inState] using none j, if_neg (none i)]
    cases list : t.cleanList with
    | nil => rw [list] at head; cases head
    | cons k rest =>
      rw [list] at head
      cases head
      rfl

/-- Settles O10: the slot's entry is opened for the page, and promoted under THROUGH; so is a CLEAN entry of the page. -/
theorem admissionAndRedirtyingOpenAnEntry : Obligations.AdmissionAndRedirtyingOpenAnEntry := by
  refine ⟨fun t budget page now o b p i absent room first => ?_, fun t budget page now o b p i entry clean room => ?_⟩
  · have slot := takeSlot_of_first first
    generalize (if t.entries[i].state = .free then t.cleanList else t.cleanList.tail) = cleans at slot ⊢
    have self := updateEntry_entries_self { t with cleanList := cleans } i fun _ => admittedEntry page o b p now
    obtain ⟨others, entry, cleanList, dueQueue⟩ :=
      promoteIfThrough_settling (p := p) (i := i)
        (u := updateEntry { t with cleanList := cleans } i fun _ => admittedEntry page o b p now) (by rw [self]; rfl)
    refine ⟨_, ?_, fun j other => ?_, ?_, cleanList, dueQueue⟩
    · rw [tableWrite, absent]
      simp only [if_pos room, slot, Option.map_some]
    · rw [others j other, updateEntry_entries_of_ne _ _ other]
    · rw [entry, self]
      rfl
  · have self := updateEntry_entries_self { t with cleanList := t.cleanList.filter (· != i) } i
      (redirtiedEntry o b p now)
    obtain ⟨others, after, cleanList, dueQueue⟩ :=
      promoteIfThrough_settling (p := p) (i := i)
        (u := updateEntry { t with cleanList := t.cleanList.filter (· != i) } i (redirtiedEntry o b p now))
        (by rw [self]; rfl)
    refine ⟨_, ?_, fun j other => ?_, ?_, cleanList, dueQueue⟩
    · rw [tableWrite, entry]
      simp only [clean, if_pos room]
    · rw [others j other, updateEntry_entries_of_ne _ _ other]
    · rw [after, self]
      rfl

/-- A merge into one entry leaves the others and the two lists. -/
theorem updateEntry_merges (t : SettleTable) (i : Index) (f : Entry → Entry) :
    (∀ j : Index, j ≠ i → (updateEntry t i f).entries[j] = t.entries[j]) ∧
      (updateEntry t i f).entries[i] = f t.entries[i] ∧ (updateEntry t i f).cleanList = t.cleanList ∧
      (updateEntry t i f).dueQueue = t.dueQueue :=
  ⟨fun _ other => updateEntry_entries_of_ne t f other, updateEntry_entries_self t i f, rfl, rfl⟩

theorem mergeCommitting_eq (o : Offset) (b : Byte) (p : PolicyRecord) (now : Stamp) (e : Entry) :
    mergeCommitting o b p now e =
      { e with
        image := e.image.set o (some b), changed := e.changed.set o true, quiet := some p.quiet
        age := if (∀ k : Offset, e.changed[k] = false) then some p.age else e.age
        ageStart := if (∀ k : Offset, e.changed[k] = false) then some now else e.ageStart
        promoteAtEnd := e.promoteAtEnd || decide (p.policy = .through) } := by
  unfold mergeCommitting
  simp only [offsetsEmpty_iff]
  by_cases through : p.policy = .through
  · rw [if_pos through, decide_eq_true through, Bool.or_true]
    by_cases empty : ∀ k : Offset, e.changed[k] = false
    · rw [if_pos empty, if_pos empty, if_pos empty]; rfl
    · rw [if_neg empty, if_neg empty, if_neg empty]; rfl
  · rw [if_neg through, decide_eq_false through, Bool.or_false]
    by_cases empty : ∀ k : Offset, e.changed[k] = false
    · rw [if_pos empty, if_pos empty, if_pos empty]; rfl
    · rw [if_neg empty, if_neg empty, if_neg empty]; rfl

/-- Settles O11: one case for each dirty state of the page's entry. -/
theorem writeMergesIntoDirtyEntry : Obligations.WriteMergesIntoDirtyEntry := by
  intro t budget page now o b p i entry
  have settles : t.entries[i].state = .settling → _ := fun settling =>
    promoteIfThrough_settling (p := p) (i := i) (u := updateEntry t i fun e => restartQuiet p (putByte o b e))
      (by rw [updateEntry_entries_self]; exact settling)
  refine ⟨fun settling absorbs => ?_, fun settling through => ?_, fun due => ?_, fun committing => ?_, fun pinned => ?_⟩
  · obtain ⟨others, after, cleanList, dueQueue⟩ := settles settling
    rw [updateEntry_entries_self, if_neg absorbs] at after
    rw [if_neg absorbs] at dueQueue
    refine ⟨_, by simp only [tableWrite, entry, settling], fun j other => ?_, after.trans ?_, cleanList, dueQueue⟩
    · rw [others j other, updateEntry_entries_of_ne _ _ other]
    · rw [← settling]; rfl
  · obtain ⟨others, after, cleanList, dueQueue⟩ := settles settling
    rw [updateEntry_entries_self, if_pos through] at after
    rw [if_pos through] at dueQueue
    refine ⟨_, by simp only [tableWrite, entry, settling], fun j other => ?_, after, cleanList, dueQueue⟩
    rw [others j other, updateEntry_entries_of_ne _ _ other]
  · exact ⟨_, by simp only [tableWrite, entry, due], updateEntry_merges t i fun e => restartQuiet p (putByte o b e)⟩
  · refine ⟨updateEntry t i (mergeCommitting o b p now), by simp only [tableWrite, entry, committing], ?_⟩
    obtain ⟨others, self, lists⟩ := updateEntry_merges t i (mergeCommitting o b p now)
    exact ⟨others, self.trans (mergeCommitting_eq o b p now _), lists⟩
  · exact ⟨_, by simp only [tableWrite, entry, pinned], updateEntry_merges t i (putByte o b)⟩

/-! ### The end of a commit in success (O22), pressure (O14) -/

/-- Settles O22: the three ways of `routeSuccess`, each read off its table. -/
theorem successfulCommitRoutesItsEntry : Obligations.SuccessfulCommitRoutesItsEntry := by
  intro mode i t
  have cleaned := updateEntry_merges t i cleanedEntry
  have cleared := updateEntry_merges t i clearCommitFlags
  have settled := updateEntry_merges t i fun e => { clearCommitFlags e with state := .settling }
  rcases routeSuccess_cases mode i t with ⟨empty, e⟩ | ⟨some, ⟨again, e⟩ | ⟨not, e⟩⟩ <;> rw [e]
  · exact ⟨cleaned.1, fun _ => ⟨cleaned.2.1, rfl, rfl⟩, fun no => absurd empty no, fun no => absurd empty no⟩
  · refine ⟨fun j other => ?_, fun empty => absurd empty some, fun _ _ => ⟨?_, rfl, rfl⟩, fun _ no => absurd again no⟩
    · rw [promote_entries_of_ne _ other]; exact cleared.1 j other
    · rw [promote_entries_self, cleared.2.1]; rfl
  · exact ⟨settled.1, fun empty => absurd empty some, fun _ again => absurd again not, fun _ _ => settled.2⟩

/-- Settles O14: the head of the list by age is the oldest SETTLING entry. -/
theorem pressurePromotesOldestSettlingEntry : Obligations.PressurePromotesOldestSettlingEntry := by
  intro s due
  have spec : pressureDue s = true := (State.due_spec due).2
  simp only [pressureDue, Bool.and_eq_true] at spec
  obtain ⟨k, settling⟩ := someEntry_iff.mp spec.2
  cases list : settlingByAge s.time.stamp s.table with
  | nil =>
    have listed : k ∈ settlingByAge s.time.stamp s.table := mem_settlingByAge.mpr (by simpa [inState] using settling)
    rw [list] at listed
    cases listed
  | cons i rest =>
    refine ⟨i, settlingByAge_head list, fun j is => ?_, ?_⟩
    · have ordered := settlingByAge_ordered s.time.stamp s.table
      have listed : j ∈ settlingByAge s.time.stamp s.table := mem_settlingByAge.mpr is
      rw [list] at ordered listed
      rcases List.mem_cons.mp listed with rfl | later
      · exact .inr ⟨rfl, Nat.le_refl _⟩
      · rcases (List.pairwise_cons.mp ordered).1 j later with older | ⟨same, lower⟩
        · exact .inl older
        · exact .inr ⟨same, Nat.le_of_lt lower⟩
    · show s.followOn .pressure = _
      rw [State.followOn_of_due due]
      show Host.Outcome.next s.applyPressure = _
      simp only [State.applyPressure, list]
      rw [State.placeStart_eq]
      simp only [State.setTable_table, promote_dueQueue]
      simp
      rfl

end Sys2Proof.Machine
end

section
/-! A byte written is read back (O19); snapshot, fill and program completion (O20, O21, O24). -/
namespace Sys2Proof.Machine

/-! ### A write is read back (O19) -/

/-- An entry of the page knows the byte. -/
def Knows (page : Nat) (o : Offset) (b : Byte) (t : SettleTable) : Prop :=
  ∃ i : Index, t.entries[i].state ≠ .free ∧ t.entries[i].page = some page ∧ t.entries[i].image[o] = some b

theorem putByte_get (o : Offset) (b : Byte) (e : Entry) : (putByte o b e).image[o] = some b := by
  simp [putByte]

/-- The entry that a write has reached knows its byte, also when it is promoted at once. -/
theorem Knows.of_entry {page : Nat} {o : Offset} {b : Byte} {t : SettleTable} {i : Index} {f : Entry → Entry}
    {p : PolicyRecord} (live : (f t.entries[i]).state ≠ .free) (named : (f t.entries[i]).page = some page)
    (known : (f t.entries[i]).image[o] = some b) :
    Knows page o b (updateEntry t i f) ∧ Knows page o b (promoteIfThrough p i (updateEntry t i f)) := by
  have self := updateEntry_entries_self t i f
  have plain : Knows page o b (updateEntry t i f) := ⟨i, by rw [self]; exact live, by rw [self]; exact named, by rw [self]; exact known⟩
  refine ⟨plain, ?_⟩
  rcases promoteIfThrough_cases p i (updateEntry t i f) with ⟨-, -, e⟩ | ⟨-, e⟩ <;> rw [e]
  · refine ⟨i, ?_, ?_, ?_⟩ <;> rw [promote_entries_self, self]
    · exact nofun
    · exact named
    · exact known
  · exact plain

/-- After a host write that the table takes, an entry of its page knows the byte (R32 to R36). -/
theorem tableWrite_knows {budget page : Nat} {now : Stamp} {o : Offset} {b : Byte} {p : PolicyRecord}
    {t t' : SettleTable} {n : Counter} (takes : tableWrite budget now page o b p t = some (t', n)) :
    Knows page o b t' := by
  rcases tableWrite_cases takes with ⟨-, -, -, i, t1, -, rfl⟩ | ⟨i, entry, ⟨-, -, -, rfl⟩ | ⟨-, merges⟩⟩
  · exact (Knows.of_entry (f := fun _ => admittedEntry page o b p now) nofun rfl (putByte_get o b _)).2
  · have named := (entryFor_eq_some_iff.mp entry).1.2
    exact (Knows.of_entry (t := { t with cleanList := t.cleanList.filter (· != i) }) (f := redirtiedEntry o b p now)
      nofun named (putByte_get o b _)).2
  · obtain ⟨live, named⟩ := (entryFor_eq_some_iff.mp entry).1
    rcases merges with ⟨-, rfl⟩ | ⟨-, rfl⟩ | ⟨-, rfl⟩ | ⟨-, rfl⟩
    · exact (Knows.of_entry (f := fun e => restartQuiet p (putByte o b e)) live named (putByte_get o b _)).2
    · exact (Knows.of_entry (p := p) (f := fun e => restartQuiet p (putByte o b e)) live named (putByte_get o b _)).1
    · obtain ⟨state, samePage, image, -⟩ := mergeCommitting_same o b p now t.entries[i]
      exact (Knows.of_entry (p := p) (f := mergeCommitting o b p now) (by rw [state]; exact live)
        (by rw [samePage]; exact named) (by rw [image]; exact putByte_get o b t.entries[i])).1
    · exact (Knows.of_entry (p := p) (f := putByte o b) live named (putByte_get o b _)).1

/-- A byte that an entry of the page knows is a table hit: the page has one entry (R18). -/
theorem Knows.tableHit {page : Nat} {o : Offset} {b : Byte} {t : SettleTable} (h : Knows page o b t)
    (distinct : ∀ i j : Index, t.entries[i].state ≠ .free → t.entries[j].state ≠ .free →
      t.entries[i].page = t.entries[j].page → i = j) : ∃ i, tableHit t page o = some (i, b) := by
  obtain ⟨i, live, named, known⟩ := h
  refine ⟨i, ?_⟩
  have entry : entryFor t page = some i := by
    refine entryFor_eq_some_iff.mpr ⟨⟨live, named⟩, fun j less is => ?_⟩
    have := distinct j i is.1 live (is.2.trans named.symm)
    exact absurd this (Fin.ne_of_lt less)
  simp only [Machine.tableHit, entry, known, Option.map_some]

/-- A change of an entry that leaves page and image, and no entry FREE, leaves what is known. -/
theorem Knows.updateEntry {page : Nat} {o : Offset} {b : Byte} {t : SettleTable} (h : Knows page o b t) {f : Entry → Entry}
    (k : Index) (live : ∀ e, (f e).state ≠ .free) (samePage : ∀ e, (f e).page = e.page)
    (image : ∀ e, (f e).image = e.image) : Knows page o b (updateEntry t k f) := by
  obtain ⟨i, is_live, named, known⟩ := h
  by_cases e : i = k
  · subst e
    refine ⟨i, ?_, ?_, ?_⟩ <;> rw [updateEntry_entries_self]
    · exact live _
    · rw [samePage]; exact named
    · rw [image]; exact known
  · refine ⟨i, ?_, ?_, ?_⟩ <;> rw [updateEntry_entries_of_ne t f e]
    · exact is_live
    · exact named
    · exact known

/-- With no access pending the follow-on rows leave the host port, and of the table the pages and images. -/
theorem State.follow_noAccess {s : State} (none : s.host.pend = none) {f : FollowOn} (due : s.due = some f) :
    (s.follow f).host = s.host ∧
      ∀ {page : Nat} {o : Offset} {b : Byte}, Knows page o b s.table → Knows page o b (s.follow f).table := by
  have noWrite : waitingWrite s.host = Option.none := by unfold waitingWrite; rw [none]
  have noRead : waitingRead s.host = Option.none := by unfold waitingRead; rw [none]
  obtain ⟨-, spec⟩ := State.due_spec due
  cases f
  case waitingWriteTakenAgain => simp [waitingWriteDue, noWrite] at spec
  case pressure => simp [pressureDue, noWrite] at spec
  case byteReadGrant =>
    obtain ⟨-, a, read⟩ := grantDue_spec spec
    rw [noRead] at read
    cases read
  case snapshot =>
    refine ⟨(congrArg State.host (State.takeSnapshot_frame s) :), fun {page o b} ⟨i, live, named, known⟩ => ?_⟩
    show Knows page o b s.takeSnapshot.table
    unfold State.takeSnapshot
    split
    · exact ⟨i, live, named, known⟩
    · exact Knows.updateEntry ⟨i, live, named, known⟩ (f := snapshotEntry) _ (fun _ => nofun) (fun _ => rfl) fun _ => rfl
  case syncComplete | persistJobStart | flushDone => exact ⟨rfl, id⟩
  case clockStageEnd =>
    exact ⟨(congrArg State.host (State.startReady_frame s) :), fun k => (congrArg State.table (State.startReady_frame s) :) ▸ k⟩
  case saveComplete =>
    exact ⟨(congrArg State.host (State.finishSave_frame s) :), fun k => (congrArg State.table (State.finishSave_frame s) :) ▸ k⟩
  case mapStoreStepGrant =>
    exact ⟨(congrArg State.host (State.grantMapStep_frame s) :), fun k => (congrArg State.table (State.grantMapStep_frame s) :) ▸ k⟩
  case programClaimGrant =>
    exact ⟨(congrArg State.host (State.grantProgram_frame s) :), fun k => (congrArg State.table (State.grantProgram_frame s) :) ▸ k⟩
  case verifyClaimGrant =>
    exact ⟨(congrArg State.host (State.grantVerify_frame s) :), fun k => (congrArg State.table (State.grantVerify_frame s) :) ▸ k⟩

/-- What stands between a write and the read of its byte: RUN, no access pending, the byte known in the table. -/
structure ReadyToRead (h : HostPort) (capacity : Nat) (page : Nat) (o : Offset) (b : Byte) (s : State) : Prop where
  law : TableLaw s
  up : s.inReset = false
  mode : s.mode = .run
  host : s.host = h
  capacity : s.remap.capacity = capacity
  knows : Knows page o b s.table

theorem ReadyToRead.settled {h : HostPort} (noAccess : h.pend = none) {capacity page : Nat} {o : Offset} {b : Byte}
    {s : State} (r : ReadyToRead h capacity page o b s) : ReadyToRead h capacity page o b s.settled := by
  refine State.settled_keeps (P := ReadyToRead h capacity page o b) (fun f s r due => ?_) r
  obtain ⟨host, knows⟩ := State.follow_noAccess (by rw [r.host]; exact noAccess) due
  have remap : (s.follow f).remap = s.remap := (congrArg State.remap (State.follow_frame f s) :)
  exact ⟨r.law.follow due, (State.follow_inReset f s).trans r.up, (State.follow_mode f s).trans r.mode,
    host.trans r.host, by rw [remap]; exact r.capacity, knows r.knows⟩

/-- A HOST_WRITE that the table takes, from an idle bus in RUN. -/
theorem ReadyToRead.of_write {s : State} {a : HostAddr} {d : Byte} {t' : SettleTable} {n : Counter} (rest : s.atRest)
    (law : TableLaw s) (idle : s.host.bus = .idle) (run : s.mode = .run) (inRange : logicalPage a < s.remap.capacity)
    (open' : (resolvePolicy s.regions (logicalPage a)).policy ≠ .locked)
    (takes : tableWrite s.cfg.budget s.time.stamp (logicalPage a) (pageOffset a) d
      (resolvePolicy s.regions (logicalPage a)) s.table = some (t', n)) :
    ∃ t, exec (.hostWrite a d) s = .next t ∧
      ReadyToRead { bus := .ended, pend := none, readByte := none, strobe := some .write } s.remap.capacity
        (logicalPage a) (pageOffset a) d t := by
  have strobe : s.assertStrobe .write = s.setHost { s.host with strobe := some .write } := by
    simp [State.assertStrobe, State.setStrobe, joinStrobe, rest.1, idle]
  have run' : exec (.hostWrite a d) s =
      .next (((((((s.setHost { s.host with strobe := some .write }).setTable t').count .hostWritesAccepted).count n).endAccess
        none)).placeStart) := by
    show s.pinEvent (State.assertStrobe .write) (State.writeStrobe a d) = _
    rw [State.pinEvent_of_atRest rest, strobe]
    have inRange' : (s.setHost { s.host with strobe := some .write }).inRange a = true := (State.inRange_iff _ a).mpr inRange
    simp only [State.writeStrobe, State.setHost_host, if_pos idle, State.arriveWrite, State.setHost_mode, run,
      State.takeWrite, inRange', if_true, State.takeResolvedWrite, State.setHost_regions, if_neg open',
      State.setHost_cfg, State.setHost_time, State.setHost_table, takes, Option.map_some, Option.getD_some]
  refine ⟨_, run', ?_⟩
  have law' := exec_keeps (keeps_tableLaw _) law run'
  rw [State.placeStart_frame] at law' ⊢
  exact ⟨law', rest.1, run, rfl, rfl, tableWrite_knows takes⟩

/-- Settles O19: the byte stays known in the table until the read, and the page has no other entry. -/
theorem acceptedByteIsReadBack : Obligations.AcceptedByteIsReadBack := by
  intro s t u v a d t' n rest law idle run _ inRange open' takes write releases read
  have inRange' : logicalPage a < s.remap.capacity := by unfold logicalPage; omega
  obtain ⟨t1, write', ready⟩ := ReadyToRead.of_write rest law idle run inRange' open' takes
  rw [write] at write'
  cases write'
  have settled := ready.settled rfl
  have released : ReadyToRead { bus := .idle, pend := none, readByte := none, strobe := none } s.remap.capacity
      (logicalPage a) (pageOffset a) d u := by
    have law' := exec_keeps (keeps_tableLaw _) ready.law releases
    have eq : u = t.settled.setHost { bus := .idle, pend := none, readByte := none, strobe := none } := by
      replace releases : t.pinEvent (State.setStrobe none) State.followStrobe = .next u := releases
      simp only [State.pinEvent, ready.up] at releases
      cases releases
      simp only [State.setStrobe, State.followStrobe, State.setHost_host, settled.host, arrivalHolds, readLinesAsserted]
      rfl
    rw [eq] at law' ⊢
    exact ⟨law', settled.up, settled.mode, rfl, settled.capacity, settled.knows⟩
  have settled := released.settled rfl
  obtain ⟨i, hit⟩ := settled.knows.tableHit settled.law.distinct
  have inRange'' : (u.settled.setHost { bus := .idle, pend := none, readByte := none, strobe := some .read }).inRange a =
      true := (State.inRange_iff _ a).mpr (by rw [State.setHost_remap, settled.capacity]; exact inRange')
  replace read : u.pinEvent (State.assertStrobe .read) (State.readStrobe a) = .next v := read
  simp only [State.pinEvent, released.up] at read
  cases read
  have strobe : u.settled.assertStrobe .read =
      u.settled.setHost { bus := .idle, pend := none, readByte := none, strobe := some .read } := by
    simp [State.assertStrobe, State.setStrobe, joinStrobe, settled.host, settled.up]
  rw [strobe]
  simp only [State.readStrobe, State.setHost_host, if_true, State.arriveRead, State.setHost_mode, settled.mode,
    State.takeRead, inRange'', State.setHost_table, hit, Option.getD_some]
  exact ⟨rfl, rfl⟩

/-! ### Snapshot (O20), fill (O21), program completion (O24) -/

/-- Settles O20: the snapshot of the head of the queue, with the target that resolution gives. -/
theorem snapshotTakesTheHeadOfTheQueue : Obligations.SnapshotTakesTheHeadOfTheQueue := by
  intro s i rest page due queue named
  refine ⟨resolveTarget s.remap page, resolvePage s.remap page, ?_, ?_⟩
  · show s.followOn .snapshot = _
    rw [State.followOn_of_due due]
    show Host.Outcome.next s.takeSnapshot = _
    simp only [State.takeSnapshot, queue, snapshotRecord, updateEntry, snapshotEntry, named, Option.getD_some]
    rfl
  · rcases resolvePage_cases s.remap page with ⟨m, mem, kind, is, target, physical⟩ | ⟨none, target, physical⟩
    · exact .inl ⟨m, mem, kind, is, target, physical⟩
    · exact .inr ⟨none, target, physical⟩

/-- The buffer equals the page read exactly where it holds the page's byte at every offset. -/
theorem definedBytes_eq_iff {p : PartialPage} {m : Page} (full : ∀ o : Offset, p[o].isSome) :
    definedBytes p = m ↔ ∀ o : Offset, p[o] = some m[o] := by
  constructor
  · rintro rfl o
    obtain ⟨b, known⟩ := Option.isSome_iff_exists.mp (full o)
    rw [known, definedBytes_get known]
  · exact definedBytes_of_full

/-- A PAGE READ's completion at rest, by the claimant that reads. -/
theorem exec_fillComplete {s : State} (rest : s.atRest) {page : Nat} {r : CommitRecord}
    (port : s.port = .reading (.fill page)) (record : s.ce.record = some r) :
    exec .fillComplete s = .next ((s.setPort .idle).fillDone r (s.readPage page)) := by
  show s.event State.fillReadDone = _
  rw [State.event_of_atRest rest]
  simp only [State.fillReadDone, port, record]

/-- Settles O21: the entry and the buffer are completed, and what is compared is the buffer with the page read. -/
theorem fillCompletesThenElidesOrClaims : Obligations.FillCompletesThenElidesOrClaims := by
  intro s r page rest port record
  have step := exec_fillComplete rest port record
  generalize s.readPage page = m at step ⊢
  have full : ∀ o : Offset, (completeWith r.buffer m)[o].isSome := fun o => by rw [completeWith_get]; rfl
  have bufferGet := completeWith_get r.buffer m
  have imageGet := completeWith_get s.table.entries[r.entry].image m
  simp only [State.fillDone, nothingToProgram_iff, definedBytes_eq_iff full] at step
  simp only [State.setPort_table, updateEntry, filledEntry] at step
  generalize completeWith r.buffer m = buffer at step full bufferGet ⊢
  generalize completeWith s.table.entries[r.entry].image m = image at step imageGet ⊢
  refine ⟨buffer, image, _, bufferGet, imageGet, rfl, fun same => ?_, fun ⟨o, differs⟩ => ?_⟩
  · rw [if_pos same] at step
    rw [step]
    unfold State.commitSucceeds
    rw [State.commitOver_eq]
    rfl
  · rw [if_neg fun same => differs (same o)] at step
    rw [step]
    rfl

/-- Settles O24: the page's cells take what the program leaves, and no other address is written. -/
theorem programCompletionWritesItsPageAlone : Obligations.ProgramCompletionWritesItsPageAlone := by
  intro s who page limit latch res rest law port busy below
  have read := readCell_writeCells_self law below (programLeaves latch res)
  have others := fun (a : Nat) => readCell_writeCells_of_ne s.pnv.cells s.straps.msize page (programLeaves latch res) (x := a)
  have step : exec (.pageProgramComplete res) s = .next (s.programDone res) := State.event_of_atRest rest _
  have ends : s.endProgram res =
      s.setPnv { cells := writeCells s.pnv.cells s.straps.msize page (programLeaves latch res), busy := none } := by
    simp only [State.endProgram, State.endProgramAt, busy]
  simp only [State.programDone, port, ends] at step
  generalize writeCells s.pnv.cells s.straps.msize page (programLeaves latch res) = cells at step read others
  refine ⟨cells, ?_, fun o => ?_, fun a outside => ?_⟩
  · rw [step]
    cases who <;> rfl
  · rw [← pnvAddress_of_lt below o, read o]
    cases res <;> rfl
  · refine others a fun o => ?_
    rw [pnvAddress_of_lt below]
    omega

end Sys2Proof.Machine
end

section
/-! Allocation, giving up a spare and the REMAP change (O29, O30); flags, ALERT# and counters (O51). -/
namespace Sys2Proof.Machine

/-! ### What resolution finds in a changed list (R8, R10) -/

/-- Placing a record that the search passes by finds what was found before. -/
theorem find?_placeRecord_of_not {p : MapRecord → Bool} {m : MapRecord} (passed : p m = false) (l : List MapRecord) :
    (placeRecord m l).find? p = l.find? p := by
  induction l with
  | nil => simp [placeRecord, passed]
  | cons x rest ih =>
    unfold placeRecord
    split
    · simp [passed]
    · simp only [List.find?_cons, ih]

/-- A record that the search looks for is found in a list that holds no other. -/
theorem find?_placeRecord_of_only {p : MapRecord → Bool} {m : MapRecord} (sought : p m = true) {l : List MapRecord}
    (none : ∀ x ∈ l, p x = false) : (placeRecord m l).find? p = some m := by
  induction l with
  | nil => simp [placeRecord, sought]
  | cons x rest ih =>
    unfold placeRecord
    split
    · simp [sought]
    · rw [List.find?_cons, none x (by simp)]
      exact ih fun y mem => none y (by simp [mem])

/-- Resolution looks at S and at what the REMAP records say. -/
theorem resolvePage_of_remapOf {r r' : RemapUnit} {p : Nat} (spares : r'.spares = r.spares)
    (same : remapOf r' p = remapOf r p) : resolvePage r' p = resolvePage r p := by
  simp only [resolvePage, resolveTarget, same, targetPage, spares]

theorem remapOf_retireChange (n : Nat) (r : RemapUnit) (p : Nat) : remapOf (retireChange n r) p = remapOf r p :=
  congrArg _ (find?_placeRecord_of_not rfl r.records)

theorem remapOf_remapChange_self (page n : Nat) (r : RemapUnit) : remapOf (remapChange page n r) page = some n := by
  unfold remapOf remapChange
  rw [find?_placeRecord_of_only (by simp) fun x mem => ?_]
  · rfl
  · obtain ⟨m, -, rfl⟩ := List.mem_map.mp mem
    refine Classical.byContradiction fun found => ?_
    simp only [Bool.not_eq_false, Bool.and_eq_true, beq_iff_eq] at found
    obtain ⟨kind, same⟩ := found
    obtain ⟨stays, other⟩ := retireOld_remap kind
    rw [stays] at same
    exact other same

theorem remapOf_remapChange_of_ne {page q : Nat} (other : q ≠ page) (n : Nat) (r : RemapUnit) :
    remapOf (remapChange page n r) q = remapOf r q := by
  have blind (m : MapRecord) : ((retireOld page m).kind == .remap && (retireOld page m).page == q) =
      (m.kind == .remap && m.page == q) := by
    by_cases old : m.kind = .remap ∧ m.page = page
    · have otherPage : (page == q) = false := beq_false_of_ne other.symm
      rw [retireOld_of_page old, old.2, otherPage, Bool.and_false]
      rfl
    · rw [retireOld_of_ne old]
  have keeps (m : MapRecord) : (retireOld page m).spare = m.spare := retireOld_spare page m
  unfold remapOf remapChange
  rw [find?_placeRecord_of_not (by simp [other.symm]), List.find?_map, Option.map_map]
  simp only [Function.comp_def, blind, keeps]

/-! ### The change report and the spares-low test -/

theorem State.mapChange_of_idle {s : State} (idle : s.store.job = none) :
    s.mapChange = s.setStore { s.store with status := .pending, startDue := s.store.startDue || s.mode != .fault } := by
  unfold State.mapChange; rw [idle]

theorem State.mapChange_of_running {s : State} (running : s.store.job ≠ none) :
    s.mapChange = s.setStore { s.store with status := .pending, persistAgain := true, changedSince := true } := by
  obtain ⟨j, job⟩ := Option.ne_none_iff_exists'.mp running
  unfold State.mapChange; rw [job]

theorem State.mapChange_status (s : State) : s.mapChange.store.status = .pending := by
  by_cases running : s.store.job = none
  · rw [State.mapChange_of_idle running]; rfl
  · rw [State.mapChange_of_running running]; rfl

theorem State.giveUpTarget_of_kept {r : CommitRecord} (kept : r.trial = false ∨ r.target = .home) (s : State) :
    s.giveUpTarget r = s := by
  unfold State.giveUpTarget
  rcases kept with h | h
  · rw [h]
  · rw [h]
    cases r.trial <;> rfl

theorem State.giveUpTarget_of_trial {r : CommitRecord} {n : Nat} (trial : r.trial = true) (target : r.target = .spare n)
    (s : State) : s.giveUpTarget r = (s.setRemap (retireChange n s.remap)).sparesLowTest.mapChange := by
  unfold State.giveUpTarget
  rw [trial, target]
  rfl

/-- What a retired trial spare leaves of the map. -/
theorem State.giveUpTarget_map {r : CommitRecord} {n : Nat} (trial : r.trial = true) (target : r.target = .spare n)
    (s : State) : sameMap (s.giveUpTarget r).remap (retireChange n s.remap) := by
  rw [State.giveUpTarget_of_trial trial target]
  exact (State.sparesLowTest_mapChange _).1

/-- Settles O29: allocation by the search through the range of spare indices; giving up by what the target is; the
change report by whether a job runs. -/
theorem allocationIsLowestAndOnlyATrialSpareIsRetired :
    Obligations.AllocationIsLowestAndOnlyATrialSpareIsRetired := by
  refine ⟨fun r => ⟨fun n => allocate_eq_some_iff, allocate_eq_none_iff⟩, fun s r => ⟨?_, ?_⟩, fun s => ⟨?_, ?_⟩⟩
  · exact fun kept => State.giveUpTarget_of_kept kept s
  · intro n trial target
    have map := State.giveUpTarget_map trial target s
    have records : (s.giveUpTarget r).remap.records = (retireChange n s.remap).records := by rw [map]
    have spares : (s.giveUpTarget r).remap.spares = s.remap.spares := by rw [map]; rfl
    refine ⟨State.giveUpTarget_of_trial trial target s, records, spares, ?_, fun p => ?_⟩
    · rw [State.giveUpTarget_of_trial trial target]
      exact State.mapChange_status _
    · refine resolvePage_of_remapOf spares ?_
      rw [← remapOf_retireChange n s.remap p]
      unfold remapOf
      rw [records]
  · intro idle
    rw [State.mapChange_of_idle idle]
    by_cases fault : s.mode = .fault <;> simp [fault, State.setStore]
  · exact State.mapChange_of_running

/-- Settles O30: the records by membership in the changed list, resolution by what the search finds in it. -/
theorem remapChangeMovesOnePageAndSparesLowIsReportedOnce :
    Obligations.RemapChangeMovesOnePageAndSparesLowIsReportedOnce := by
  refine ⟨fun r page n ascending fresh _ => ⟨?_, ?_, ?_, ?_, ?_, ?_⟩, fun s => ⟨?_, ?_⟩⟩
  · have target : resolveTarget (remapChange page n r) page = .spare n := by
      unfold resolveTarget; rw [remapOf_remapChange_self]
    unfold resolvePage
    rw [target]
    rfl
  · exact fun q other => resolvePage_of_remapOf rfl (remapOf_remapChange_of_ne other n r)
  · exact (placeRecord_length _ _).trans (by rw [List.length_map])
  · refine placeRecord_ascending ?_ fun x mem => ?_
    · simpa [List.map_map, Function.comp_def] using ascending
    · obtain ⟨m, m_mem, rfl⟩ := List.mem_map.mp mem
      rw [retireOld_spare]
      exact fresh m m_mem
  · exact fun m mem kind same => mem_remapChange.mpr (.inr ⟨m, mem, retireOld_of_page ⟨kind, same⟩⟩)
  · exact fun m mem other => mem_remapChange.mpr (.inr ⟨m, mem, retireOld_of_ne other⟩)
  · exact fun hits => if_pos hits
  · exact fun misses => if_neg misses

/-! ### Flags and counters (R197, R198, R201) -/

theorem flagBit_lt (f : Flag) : flagBit f < 15 := by cases f <;> decide

theorem flagBit_injective {f g : Flag} (h : flagBit f = flagBit g) : f = g := by
  revert h
  cases f <;> cases g <;> decide

/-- Each bit of the flag word is a flag's. -/
theorem flagBit_surjective {n : Nat} (h : n < 15) : ∃ f, flagBit f = n := by
  have all : ∀ k : Fin 15, ∃ f ∈ ([.rdstall, .wrstall, .range, .locked, .hdrop, .remap, .splow, .spout, .mstale, .mfault,
    .loss, .syncdn, .savedn, .holddn, .fresh] : List Flag), flagBit f = k := by decide
  obtain ⟨f, -, bit⟩ := all ⟨n, h⟩
  exact ⟨f, bit⟩

theorem flagIn_raiseFlag (e : EventUnit) (f g : Flag) :
    flagIn (raiseFlag f e).flags g = (decide (g = f) || flagIn e.flags g) := by
  have bit : (1#15 <<< flagBit f).getLsbD (flagBit g) = decide (g = f) := by
    rw [← BitVec.twoPow_eq, BitVec.getLsbD_twoPow]
    have := flagBit_lt f
    by_cases same : g = f
    · simp [same, this]
    · have : flagBit f ≠ flagBit g := fun e => same (flagBit_injective e.symm)
      simp [same, this]
  show (e.flags ||| (1#15 <<< flagBit f)).getLsbD (flagBit g) = _
  rw [BitVec.getLsbD_or, bit, Bool.or_comm]
  rfl

theorem alertAsserted_iff (e : EventUnit) :
    alertAsserted e = true ↔ ∃ f, flagIn e.flags f = true ∧ flagIn e.enables f = true := by
  unfold alertAsserted
  rw [bne_iff_ne]
  constructor
  · intro nonzero
    refine Classical.byContradiction fun none => ?_
    refine nonzero (BitVec.eq_of_getLsbD_eq fun i below => ?_)
    obtain ⟨f, rfl⟩ := flagBit_surjective below
    have : ¬ (flagIn e.flags f = true ∧ flagIn e.enables f = true) := fun both => none ⟨f, both⟩
    unfold flagIn at this
    simpa using this
  · rintro ⟨f, flag, enable⟩ zero
    have := congrArg (·.getLsbD (flagBit f)) zero
    unfold flagIn at flag enable
    simp [flag, enable] at this

theorem offerError_of_empty {e : EventUnit} (empty : e.capture = none) (err : CapturedError) :
    offerError err e = { e with capture := some err } := by
  unfold offerError; rw [empty]

theorem offerError_of_held {e : EventUnit} (held : e.capture ≠ none) (err : CapturedError) :
    offerError err e = { e with overflow := saturate e.overflow } := by
  obtain ⟨c, capture⟩ := Option.ne_none_iff_exists'.mp held
  unfold offerError; rw [capture]

/-- The maximum stays, every other number rises by one. -/
theorem saturate_eq_ite {w : Nat} (n top : BitVec w) (max : BitVec.allOnes w = top) :
    saturate n = if n = top then top else n + 1 := by
  subst max
  unfold saturate
  split
  · assumption
  · rfl

theorem addCount_getElem (c : Counter) (e : EventUnit) (i : Fin 10) :
    (addCount c e).counters[i] = if i = counterIndex c then saturate e.counters[i] else e.counters[i] := by
  show (e.counters.set (counterIndex c).val _ (counterIndex c).isLt)[i.val] = _
  rw [Vector.getElem_set]
  by_cases same : i = counterIndex c
  · subst same; simp
  · rw [if_neg same, if_neg fun e => same (Fin.ext e.symm)]
    rfl

/-- Settles O51: bit by bit, and by the cases of the capture record and of the counter. -/
theorem alertAndReportsFollowTheFlags : Obligations.AlertAndReportsFollowTheFlags := by
  refine ⟨by decide, fun w f => rfl, alertAsserted_iff, fun e f err c => ⟨flagIn_raiseFlag e f, rfl, ?_, ?_, ?_, rfl⟩⟩
  · exact fun empty => offerError_of_empty empty err
  · exact fun held => by rw [offerError_of_held held, saturate_eq_ite _ 255#8 rfl]
  · exact fun i => by rw [addCount_getElem, saturate_eq_ite _ 0xFFFFFFFF#32 rfl]

end Sys2Proof.Machine
end

section
/-! Errors offered together, the exhausted target (O27) and the expiry of the program limit (O28). -/
namespace Sys2Proof.Machine

/-! ### What offers leave in the capture record and the overflow count (R199) -/

/-- An error as it is offered at a time stamp. -/
def errorAt (stamp : BitVec 32) (x : ErrorKind × Nat) : CapturedError :=
  { kind := x.1, addr := BitVec.ofNat 24 x.2, stamp }

/-- The errors of a list have been offered: an empty record holds one of them, the others are counted. -/
structure Offered (stamp : BitVec 32) (errs : List (ErrorKind × Nat)) (e e' : EventUnit) : Prop where
  held : e.capture ≠ none → e'.capture = e.capture
  taken : e.capture = none → (errs = [] ∧ e'.capture = none) ∨ ∃ x ∈ errs, e'.capture = some (errorAt stamp x)
  counted : e'.overflow.toNat = min 255 (e.overflow.toNat + (errs.length - if e.capture = none then 1 else 0))

theorem saturate_toNat (n : BitVec 8) : (saturate n).toNat = min 255 (n.toNat + 1) := by
  rw [saturate_eq_ite n 255#8 rfl]
  split
  · rename_i top
    rw [top]; rfl
  · rename_i below
    have : n.toNat ≠ 255 := fun e => below (BitVec.eq_of_toNat_eq e)
    rw [BitVec.toNat_add]
    have := n.isLt
    show (n.toNat + 1) % 256 = _
    omega

section
variable {stamp : BitVec 32} {errs more : List (ErrorKind × Nat)} {e e' e'' : EventUnit}

/-- Where nothing is offered the record and the count stand. -/
theorem Offered.nothing (capture : e'.capture = e.capture) (overflow : e'.overflow = e.overflow) :
    Offered stamp [] e e' where
  held _ := capture
  taken empty := .inl ⟨rfl, capture.trans empty⟩
  counted := by
    have := e.overflow.isLt
    rw [overflow, List.length_nil, Nat.zero_sub]
    omega

theorem Offered.one (x : ErrorKind × Nat) : Offered stamp [x] e (offerError (errorAt stamp x) e) := by
  by_cases empty : e.capture = none
  · rw [offerError_of_empty empty]
    refine ⟨fun held => absurd empty held, fun _ => .inr ⟨x, by simp, rfl⟩, ?_⟩
    have := e.overflow.isLt
    simp only [if_pos empty, List.length_singleton, Nat.sub_self]
    omega
  · rw [offerError_of_held empty]
    refine ⟨fun _ => rfl, fun e => absurd e empty, ?_⟩
    simp only [if_neg empty, List.length_singleton]
    exact saturate_toNat _

theorem Offered.append (first : Offered stamp errs e e') (second : Offered stamp more e' e'') :
    Offered stamp (errs ++ more) e e'' := by
  by_cases empty : e.capture = none
  · have counted := first.counted
    have counted' := second.counted
    rcases first.taken empty with ⟨rfl, still⟩ | ⟨x, mem, taken⟩
    · refine ⟨fun held => absurd empty held, fun _ => second.taken still, ?_⟩
      simp only [empty, still, if_true, List.length_nil, List.nil_append] at *
      omega
    · have full : e'.capture ≠ none := by rw [taken]; exact nofun
      refine ⟨fun held => absurd empty held,
        fun _ => .inr ⟨x, List.mem_append_left _ mem, (second.held full).trans taken⟩, ?_⟩
      have := List.length_pos_of_mem mem
      simp only [empty, full, if_true, if_false, List.length_append] at *
      omega
  · have held := first.held empty
    have full : e'.capture ≠ none := by rw [held]; exact empty
    have counted := first.counted
    have counted' := second.counted
    refine ⟨fun _ => (second.held full).trans held, fun e => absurd e empty, ?_⟩
    simp only [empty, full, if_false, List.length_append] at *
    omega

theorem Offered.perm (h : Offered stamp errs e e') (same : errs.Perm more) : Offered stamp more e e' where
  held := h.held
  taken empty := by
    rcases h.taken empty with ⟨rfl, still⟩ | ⟨x, mem, taken⟩
    · exact .inl ⟨same.nil_eq.symm, still⟩
    · exact .inr ⟨x, same.mem_iff.mp mem, taken⟩
  counted := by rw [← same.length_eq]; exact h.counted

/-- Flags, enables and counters play no part in an offer. -/
theorem Offered.of_after (h : Offered stamp errs e e') (capture : e''.capture = e'.capture)
    (overflow : e''.overflow = e'.overflow) : Offered stamp errs e e'' := by
  have := h.append (Offered.nothing capture overflow)
  rwa [List.append_nil] at this

theorem Offered.of_before (h : Offered stamp errs e' e'') (capture : e'.capture = e.capture)
    (overflow : e'.overflow = e.overflow) : Offered stamp errs e e'' :=
  (Offered.nothing capture overflow).append h

end

/-- The list with one element moved to its front. -/
theorem moveToFront_perm {α : Type} {l : List α} {k : Nat} (below : k < l.length) :
    ((l.drop k).take 1 ++ l.eraseIdx k).Perm l := by
  have parts : l.take k ++ l[k] :: l.drop (k + 1) = l := by rw [List.getElem_cons_drop below, List.take_append_drop]
  rw [List.drop_eq_getElem_cons below, List.eraseIdx_eq_take_drop_succ]
  exact (List.perm_middle (l₁ := l.take k)).symm.trans (.of_eq parts)

/-- The same with the parts of the event unit that offers leave alone. -/
theorem State.offerUnordered_offers (errs : List (ErrorKind × Nat)) (s : State) :
    (s.offerUnordered errs).events =
        { s.events with
          capture := (s.offerUnordered errs).events.capture, overflow := (s.offerUnordered errs).events.overflow } ∧
      Offered s.time.stamp errs s.events (s.offerUnordered errs).events := by
  have one (x : ErrorKind × Nat) (t : State) :
      (t.offer x.1 x.2).events =
          { t.events with capture := (t.offer x.1 x.2).events.capture, overflow := (t.offer x.1 x.2).events.overflow } ∧
        Offered t.time.stamp [x] t.events (t.offer x.1 x.2).events := by
    refine ⟨?_, .one x⟩
    show offerError _ t.events = _
    unfold State.offer offerError
    cases t.events.capture <;> rfl
  have fold : ∀ (l : List (ErrorKind × Nat)) (t : State),
      let u := l.foldl (fun t e => t.offer e.1 e.2) t
      u.events = { t.events with capture := u.events.capture, overflow := u.events.overflow } ∧
        Offered t.time.stamp l t.events u.events := by
    intro l
    induction l with
    | nil => exact fun t => ⟨rfl, .nothing rfl rfl⟩
    | cons x l ih =>
      intro t
      obtain ⟨here, offered⟩ := one x t
      obtain ⟨there, more⟩ := ih (t.offer x.1 x.2)
      refine ⟨?_, offered.append more⟩
      rw [List.foldl_cons, there, here]
  unfold State.offerUnordered
  split
  · exact ⟨rfl, .nothing rfl rfl⟩
  · exact one _ s
  · rename_i some_error _
    generalize place : Config.firstOffer s.choices % errs.length = k
    have below : k < errs.length := by
      rw [← place]
      exact Nat.mod_lt _ (List.length_pos_iff.mpr some_error)
    have order := moveToFront_perm below
    obtain ⟨rest, offered⟩ := fold ((errs.drop k).take 1 ++ errs.eraseIdx k) s
    exact ⟨rest, offered.perm order⟩

/-! ### The target is given up (R96, R98 to R100) -/

/-- Giving up a target changes map, store and flags, and neither the capture record nor the counters. -/
theorem State.giveUpTarget_events (r : CommitRecord) (s : State) :
    (s.giveUpTarget r).events = { s.events with flags := (s.giveUpTarget r).events.flags } := by
  unfold State.giveUpTarget
  split
  · unfold State.retireSpare
    rw [State.mapChange_eq, State.sparesLowTest]
    split <;> rfl
  · rfl

/-- Two pages with a different byte at an offset differ. -/
theorem ne_definedBytes {p : PartialPage} {m : Page} (differs : ∃ o : Offset, ∃ b, p[o] = some b ∧ b ≠ m[o]) :
    m ≠ definedBytes p := by
  obtain ⟨o, b, buffered, other⟩ := differs
  exact fun e => other (by rw [e, definedBytes_get buffered])

theorem exec_verifyComplete {s : State} (rest : s.atRest) {page : Nat} {r : CommitRecord}
    (port : s.port = .reading (.verify page)) (record : s.ce.record = some r) :
    exec .verifyComplete s = .next ((s.setPort .idle).verifyDone r (s.readPage page)) := by
  show s.event State.verifyReadDone = _
  rw [State.event_of_atRest rest]
  unfold State.verifyReadDone
  rw [port, record]

theorem exec_verifyComplete_of_mismatch {s : State} (rest : s.atRest) {page : Nat} {r : CommitRecord}
    (port : s.port = .reading (.verify page)) (record : s.ce.record = some r)
    (differs : ∃ o : Offset, ∃ b, r.buffer[o] = some b ∧ b ≠ (s.readPage page)[o]) :
    exec .verifyComplete s = .next ((s.setPort .idle).verifyMismatch r) := by
  rw [exec_verifyComplete rest port record]
  unfold State.verifyDone
  rw [if_neg (ne_definedBytes differs)]

/-- With no attempts left and no free spare the entry is PINNED and both errors are offered. -/
theorem State.verifyMismatch_of_noSpare {s : State} {r : CommitRecord} (spent : r.attemptLimit ≤ r.attempts)
    (none : allocate ((s.count .verifyFails).giveUpTarget r).remap = none) :
    s.verifyMismatch r =
      ((((s.count .verifyFails).giveUpTarget r).raise .spout).offerUnordered
        [(.verify, r.page), (.spout, r.page)]).commitPinned r := by
  simp only [State.verifyMismatch]
  rw [if_neg (by omega), none]

/-- With no attempts left the next free spare is tried. -/
theorem State.verifyMismatch_of_spare {s : State} {r : CommitRecord} {n : Nat} (spent : r.attemptLimit ≤ r.attempts)
    (free : allocate ((s.count .verifyFails).giveUpTarget r).remap = some n) :
    s.verifyMismatch r =
      (((s.count .verifyFails).giveUpTarget r).offer .verify r.page).awaitProgram (toTrial n r) := by
  simp only [State.verifyMismatch]
  rw [if_neg (by omega), free]

/-- Settles O27: by whether a spare is free after the target has been given up. -/
theorem exhaustedTargetLeadsToSpareOrPinning : Obligations.ExhaustedTargetLeadsToSpareOrPinning := by
  intro s r page rest port record differs spent u given
  have steps := exec_verifyComplete_of_mismatch rest port record differs
  have frame : given = _ := State.giveUpTarget_frame r u
  have events : given.events = _ := State.giveUpTarget_events r u
  refine ⟨fun n free => ?_, fun noSpare => ?_⟩
  · rw [steps, State.verifyMismatch_of_spare (s := s.setPort .idle) spent free]
    show Host.Outcome.next ((given.offer .verify r.page).awaitProgram (toTrial n r)) = _
    generalize given = g at frame
    rw [frame]
    rfl
  · rw [State.verifyMismatch_of_noSpare (s := s.setPort .idle) spent noSpare] at steps
    change _ = Host.Outcome.next
      (((given.raise .spout).offerUnordered [(.verify, r.page), (.spout, r.page)]).commitPinned r) at steps
    generalize given = g at *
    obtain ⟨same, offered⟩ := State.offerUnordered_offers [(.verify, r.page), (.spout, r.page)] (g.raise .spout)
    have unordered := State.offerUnordered_frame [(.verify, r.page), (.spout, r.page)] (g.raise .spout)
    generalize (g.raise .spout).offerUnordered _ = v at *
    have raised : (g.raise .spout).events = raiseFlag .spout g.events := rfl
    have stamp : (g.raise .spout).time.stamp = s.time.stamp := by rw [frame]; rfl
    rw [raised] at same offered
    rw [stamp] at offered
    refine ⟨_, steps, ?_⟩
    have endsAs : v.commitPinned r =
        { g with
          table := updateEntry s.table r.entry (pinnedEntry r.changeSet)
          ce :=
            { record := none
              stage := if s.table.dueQueue ≠ [] ∧ (s.mode = .run ∨ s.mode = .holdup) then .starting else .idle }
          events := v.events, choices := v.choices } := by
      unfold State.commitPinned
      rw [State.commitOver_eq, unordered, frame]
      rfl
    rw [endsAs]
    have capture : g.events.capture = s.events.capture := by rw [events]; rfl
    have overflow : g.events.overflow = s.events.overflow := by rw [events]; rfl
    have offered' : Offered s.time.stamp [(.verify, r.page), (.spout, r.page)] s.events v.events :=
      offered.of_before capture overflow
    refine ⟨rfl, ?_, ?_, ?_, ?_, ?_, fun empty => ⟨?_, ?_⟩, fun held => ⟨offered'.held held, ?_⟩⟩
    · show v.events.flags = _
      rw [same]
    · show v.events.enables = _
      rw [same]; show g.events.enables = _; rw [events]; rfl
    · show v.events.counters = _
      rw [same]; show g.events.counters = _; rw [events]
    · show v.events.resetLoss = _
      rw [same]; show g.events.resetLoss = _; rw [events]; rfl
    · show v.events.lossPending = _
      rw [same]; show g.events.lossPending = _; rw [events]; rfl
    · rcases offered'.taken empty with ⟨impossible, -⟩ | ⟨x, mem, taken⟩
      · cases impossible
      · simp only [List.mem_cons, List.not_mem_nil, or_false] at mem
        rcases mem with rfl | rfl
        · exact .inl taken
        · exact .inr taken
    · have := offered'.counted
      rw [if_pos empty] at this
      exact this
    · have := offered'.counted
      rw [if_neg held] at this
      exact this

end Sys2Proof.Machine
end

section
/-! The way into FAULT (R122, R123, R194) and the expiry of the program limit (O28). -/
namespace Sys2Proof.Machine

/-! ### The host's access when the part enters FAULT (R123) -/

/-- An access held in BOOT. -/
def heldInBoot (h : HostPort) : Prop := ∃ p, h.pend = some p ∧ p.wait = .boot

/-- A read that waits for a grant. -/
def readClaims (h : HostPort) : Prop := ∃ p, h.pend = some p ∧ p.access = .read ∧ p.wait = .claim

/-- A read that FAULT ends. -/
def readEnds (h : HostPort) : Prop := ∃ p, h.pend = some p ∧ p.access = .read ∧ (p.wait = .claim ∨ p.wait = .boot)

/-- A read that waits for a grant ends with the filler byte and its error, one held in BOOT with RANGE, whose error
the entry into FAULT has offered already. -/
theorem State.hostInFault_cases (s : State) :
    (∃ p, s.host.pend = some p ∧ p.access = .read ∧ p.wait = .claim ∧
      s.hostInFault = (s.offer .memtimeout p.addr.toNat).endRead s.cfg.filler) ∨
    (∃ p, s.host.pend = some p ∧ p.access = .read ∧ p.wait = .boot ∧
      s.hostInFault = (s.raise .range).endRead s.cfg.filler) ∨
    (∃ p d, s.host.pend = some p ∧ p.access = .write d ∧ p.wait = .boot ∧
      s.hostInFault = (s.raise .range).endAccess none) ∨
    ((∀ p, s.host.pend = some p → p.wait ≠ .boot ∧ ¬ (p.access = .read ∧ p.wait = .claim)) ∧ s.hostInFault = s) := by
  unfold State.hostInFault
  split
  · rename_i p
    exact .inl ⟨_, p, rfl, rfl, rfl⟩
  · rename_i p
    exact .inr (.inl ⟨_, p, rfl, rfl, rfl⟩)
  · rename_i p
    exact .inr (.inr (.inl ⟨_, _, p, rfl, rfl, rfl⟩))
  · rename_i claims boots drops
    refine .inr (.inr (.inr ⟨fun p pend => ⟨fun boot => ?_, fun ⟨read, claim⟩ => ?_⟩, rfl⟩))
    · obtain ⟨access, addr, limit, left, wait⟩ := p
      obtain rfl : wait = .boot := boot
      cases access with
      | read => exact boots _ _ _ pend
      | write d => exact drops _ _ _ _ pend
    · obtain ⟨access, addr, limit, left, wait⟩ := p
      obtain rfl : access = .read := read
      obtain rfl : wait = .claim := claim
      exact claims _ _ _ pend

/-- What the end of the host's access reports. -/
structure HostEndsInFault (s t : State) : Prop where
  frame : t.events =
    { s.events with
      flags := t.events.flags, capture := t.events.capture, overflow := t.events.overflow, counters := t.events.counters }
  flags : ∀ f, flagIn t.events.flags f = true ↔ flagIn s.events.flags f = true ∨ (f = .range ∧ heldInBoot s.host)
  read : readEnds s.host → t.events.counters = (addCount .hostReads s.events).counters
  noRead : ¬ readEnds s.host → t.events.counters = s.events.counters
  claims : readClaims s.host →
    ∃ x, Offered s.time.stamp [x] s.events t.events
  claimsNot : ¬ readClaims s.host → Offered s.time.stamp [] s.events t.events

theorem flagIn_raiseFlag_iff (e : EventUnit) (f g : Flag) :
    flagIn (raiseFlag f e).flags g = true ↔ flagIn e.flags g = true ∨ g = f := by
  rw [flagIn_raiseFlag, Bool.or_eq_true, decide_eq_true_eq, or_comm]

theorem State.hostInFault_reports (s : State) : HostEndsInFault s s.hostInFault := by
  rcases s.hostInFault_cases with ⟨p, pend, read, claim, ends⟩ | ⟨p, pend, read, boot, ends⟩ |
    ⟨p, d, pend, write, boot, ends⟩ | ⟨stays, ends⟩ <;> rw [ends]
  · have notBoot : ¬ heldInBoot s.host := fun ⟨q, pend', boot⟩ => by
      rw [pend] at pend'; cases pend'; rw [claim] at boot; cases boot
    have offered := Offered.one (stamp := s.time.stamp) (e := s.events) (.memtimeout, p.addr.toNat)
    have reports : (((s.offer .memtimeout p.addr.toNat).endRead s.cfg.filler).events) =
      addCount .hostReads (offerError (errorAt s.time.stamp (.memtimeout, p.addr.toNat)) s.events) := rfl
    have frame : offerError (errorAt s.time.stamp (.memtimeout, p.addr.toNat)) s.events =
        { s.events with
          capture := (offerError (errorAt s.time.stamp (.memtimeout, p.addr.toNat)) s.events).capture
          overflow := (offerError (errorAt s.time.stamp (.memtimeout, p.addr.toNat)) s.events).overflow } := by
      unfold offerError
      split <;> rfl
    generalize offerError _ s.events = e at offered reports frame
    exact {
      frame := by rw [reports, frame]; rfl
      flags := fun f => by
        rw [reports, frame]
        exact ⟨.inl, fun h => h.resolve_right fun ⟨_, boot⟩ => notBoot boot⟩
      read := fun _ => by rw [reports, frame]; rfl
      noRead := fun none => absurd ⟨p, pend, read, .inl claim⟩ none
      claims := fun _ => ⟨_, by rw [reports]; exact offered.of_after rfl rfl⟩
      claimsNot := fun none => absurd ⟨p, pend, read, claim⟩ none }
  · have notClaim : ¬ readClaims s.host := fun ⟨q, pend', _, claim⟩ => by
      rw [pend] at pend'; cases pend'; rw [boot] at claim; cases claim
    exact {
      frame := rfl
      flags := fun f => (flagIn_raiseFlag_iff s.events .range f).trans
        ⟨fun h => h.imp id fun same => ⟨same, p, pend, boot⟩, fun h => h.imp id And.left⟩
      read := fun _ => rfl
      noRead := fun none => absurd ⟨p, pend, read, .inr boot⟩ none
      claims := fun claim => absurd claim notClaim
      claimsNot := fun _ => .nothing rfl rfl }
  · have notRead : ¬ readEnds s.host := fun ⟨q, pend', read, _⟩ => by
      rw [pend] at pend'; cases pend'; rw [write] at read; cases read
    exact {
      frame := rfl
      flags := fun f => (flagIn_raiseFlag_iff s.events .range f).trans
        ⟨fun h => h.imp id fun same => ⟨same, p, pend, boot⟩, fun h => h.imp id And.left⟩
      read := fun read => absurd read notRead
      noRead := fun _ => rfl
      claims := fun ⟨q, pend', read, claim⟩ => absurd ⟨q, pend', read, .inl claim⟩ notRead
      claimsNot := fun _ => .nothing rfl rfl }
  · have notBoot : ¬ heldInBoot s.host := fun ⟨q, pend', boot⟩ => (stays q pend').1 boot
    have notRead : ¬ readEnds s.host := fun ⟨q, pend', read, waits⟩ =>
      waits.elim (fun claim => (stays q pend').2 ⟨read, claim⟩) (stays q pend').1
    exact {
      frame := rfl
      flags := fun f => ⟨.inl, fun h => h.resolve_right fun ⟨_, boot⟩ => notBoot boot⟩
      read := fun read => absurd read notRead
      noRead := fun _ => rfl
      claims := fun ⟨q, pend', read, claim⟩ => absurd ⟨q, pend', read, .inl claim⟩ notRead
      claimsNot := fun _ => .nothing rfl rfl }

/-! ### The parts of the entry into FAULT -/

/-- The state in which the host's access ends: what stands before it of host, time and settings, and what has been
reported. -/
theorem State.enterFault_inner (c : ErrorKind × Nat) (s : State) :
    ∃ u : State, u.host = s.host ∧ u.time = s.time ∧ u.cfg = s.cfg ∧
      u.events = (s.offerUnordered (faultErrors c s)).faultFlags.events ∧
      (s.enterFault c).events = u.hostInFault.events ∧ (s.enterFault c).host = u.hostInFault.host := by
  obtain ⟨e, n, reported⟩ : ∃ e n,
      (s.offerUnordered (faultErrors c s)).faultFlags = { s with events := e, choices := n } :=
    ⟨_, _, by rw [State.faultFlags_frame, State.offerUnordered_frame]⟩
  have told :
      ((({ s with events := e, choices := n } : State).setStore (storeInFault s.store)).commitInFault).clearSyncMarks =
        { s with
          events := e, choices := n, store := storeInFault s.store, table := s.commitInFault.clearSyncMarks.table
          ce := { stage := .idle, record := none } } := by
    unfold State.commitInFault
    split <;> rename_i record <;> change s.ce.record = _ at record <;> rw [record] <;> rfl
  refine ⟨{ s with
      events := e, choices := n, store := storeInFault s.store, table := s.commitInFault.clearSyncMarks.table
      ce := { stage := .idle, record := none } }, rfl, rfl, rfl, by rw [reported], ?_⟩
  simp only [State.enterFault, reported, told]
  rw [State.hostInFault_frame]
  exact ⟨rfl, rfl⟩

/-- The flags that FAULT raises besides that of an access held in BOOT. -/
theorem State.faultFlags_flags (s : State) (f : Flag) :
    flagIn s.faultFlags.events.flags f = true ↔
      flagIn s.events.flags f = true ∨ f = .mfault ∨ (f = .mstale ∧ s.store.job ≠ none) := by
  have running : s.store.job.isSome = true ↔ s.store.job ≠ none := Option.isSome_iff_ne_none
  unfold State.faultFlags
  split
  · rename_i job
    have job := running.mp job
    refine (flagIn_raiseFlag_iff (raiseFlag .mfault s.events) .mstale f).trans ?_
    rw [flagIn_raiseFlag_iff, and_iff_left job, or_assoc]
  · rename_i job
    have job := mt running.mpr job
    refine (flagIn_raiseFlag_iff s.events .mfault f).trans ?_
    simp only [job, and_false, or_false]

theorem State.faultFlags_events (s : State) :
    s.faultFlags.events = { s.events with flags := s.faultFlags.events.flags } := by
  unfold State.faultFlags
  split <;> rfl

/-! ### The map store in FAULT (R150, R154) -/

theorem storeInFault_of_running {m : MapStore} (running : m.job ≠ none) :
    storeInFault m =
      { m with
        jobRunning := false, persistAgain := false, startDue := false, saveRequest := .none
        saveReport := if m.saveRequest = .none then m.saveReport else some false
        status := .stale, jobData := { m.jobData with image := [] }, freshTarget := freshTargetAfterFailure m } := by
  unfold storeInFault
  simp only [Option.isSome_iff_ne_none.mpr running, if_true]
  rfl

theorem storeInFault_of_idle {m : MapStore} (idle : m.job = none) :
    storeInFault m =
      { m with
        jobRunning := false, persistAgain := false, startDue := false, saveRequest := .none
        saveReport := if m.saveRequest = .none then m.saveReport else some false } := by
  have stopped := (MapStore.job_eq_none m).mp idle
  unfold storeInFault
  simp only [idle]
  rw [← stopped]
  rfl

theorem freshTargetAfterFailure_eq (m : MapStore) :
    freshTargetAfterFailure m =
      if m.current = none then (if m.freshTarget = .a then .b else .a) else m.freshTarget := by
  unfold freshTargetAfterFailure
  cases m.current with
  | none => cases m.freshTarget <;> rfl
  | some c => rfl

/-! ### How many errors are offered at the entry into FAULT -/

theorem faultErrors_cold {s : State} (cold : ¬ heldInBoot s.host) (c : ErrorKind × Nat) :
    faultErrors c s = faultErrors c { s with host := { s.host with pend := none } } := by
  unfold faultErrors
  congr 1
  split
  · rename_i pend
    exact absurd ⟨_, pend, rfl⟩ cold
  · rfl

theorem faultErrors_of_job {s : State} {j : PersistJob} (job : s.store.job = some j) (cold : ¬ heldInBoot s.host)
    (c : ErrorKind × Nat) : faultErrors c s = [c, (.mstale, jobPhysical j * 64)] := by
  rw [faultErrors_cold cold]
  unfold faultErrors
  simp only [job]
  rfl

theorem faultErrors_of_noJob {s : State} (job : s.store.job = none) (cold : ¬ heldInBoot s.host)
    (c : ErrorKind × Nat) : faultErrors c s = [c] := by
  rw [faultErrors_cold cold]
  unfold faultErrors
  simp only [job]
  rfl

theorem faultErrors_length_of_cold {s : State} (cold : ¬ heldInBoot s.host) (c : ErrorKind × Nat) :
    (faultErrors c s).length = 1 + if s.store.job = none then 0 else 1 := by
  cases job : s.store.job with
  | none => rw [faultErrors_of_noJob job cold]; rfl
  | some j => rw [faultErrors_of_job job cold]; rfl

theorem faultErrors_length_of_held {s : State} (held : heldInBoot s.host) (c : ErrorKind × Nat) :
    (faultErrors c s).length = 2 + if s.store.job = none then 0 else 1 := by
  obtain ⟨⟨access, addr, limit, left, wait⟩, pend, boot⟩ := held
  obtain rfl : wait = .boot := boot
  unfold faultErrors
  rw [pend]
  cases s.store.job <;> rfl

end Sys2Proof.Machine
end

section
/-! The expiry of the program limit takes the part into FAULT (O28). -/
namespace Sys2Proof.Machine

/-- The lines that carry a byte, and those that hold the bus, by the strobe. -/
theorem endAccess_host (s : State) (b : Option Byte) :
    (s.endAccess b).host =
      { bus := if s.host.strobe = some .read ∨ s.host.strobe = some .write then .ended else .idle, pend := none
        strobe := s.host.strobe
        readByte := if s.host.strobe = some .read ∨ s.host.strobe = some .both then b else none } := by
  have arrival : arrivalHolds s.host.strobe = true ↔ s.host.strobe = some .read ∨ s.host.strobe = some .write := by
    rcases s.host.strobe with _ | x
    · decide
    · cases x <;> decide
  have lines : readLinesAsserted s.host.strobe = true ↔ s.host.strobe = some .read ∨ s.host.strobe = some .both := by
    rcases s.host.strobe with _ | x
    · decide
    · cases x <;> decide
  show ({ s.host with
    bus := if arrivalHolds s.host.strobe then .ended else .idle, pend := none
    readByte := if readLinesAsserted s.host.strobe then b else none } : HostPort) = _
  simp only [arrival, lines]

theorem exec_programLimitExpiry {s : State} (rest : s.atRest) {who : Programmer} {page : Nat}
    (port : s.port = .programming who page 0) :
    exec .programLimitExpiry s = .next (s.enterFault (.memtimeout, page * 64)) := by
  have expired : programLimitExpired s.port = true := by rw [port]; rfl
  have timesOut : s.programTimesOut = s.enterFault (.memtimeout, page * 64) := by unfold State.programTimesOut; rw [port]
  refine (State.event_of_atRest rest fun s => if programLimitExpired s.port then s.programTimesOut else s).trans ?_
  rw [if_pos expired, timesOut]

section
variable {s : State} {c : ErrorKind × Nat}

/-- What the entry into FAULT reports, and what stands in capture record and overflow count after it. -/
structure FaultReports (c : ErrorKind × Nat) (s : State) (e : EventUnit) : Prop where
  frame : e = { s.events with flags := e.flags, capture := e.capture, overflow := e.overflow, counters := e.counters }
  flags : ∀ f, flagIn e.flags f = true ↔
    flagIn s.events.flags f = true ∨ f = .mfault ∨ (f = .mstale ∧ s.store.job ≠ none) ∨ (f = .range ∧ heldInBoot s.host)
  read : readEnds s.host → e.counters = (addCount .hostReads s.events).counters
  noRead : ¬ readEnds s.host → e.counters = s.events.counters
  held : s.events.capture ≠ none → e.capture = s.events.capture
  taken : s.events.capture = none → ∃ x ∈ faultErrors c s, e.capture = some (errorAt s.time.stamp x)
  claims : readClaims s.host →
    e.overflow.toNat =
      min 255 (s.events.overflow.toNat + ((faultErrors c s).length - if s.events.capture = none then 1 else 0) + 1)
  claimsNot : ¬ readClaims s.host →
    e.overflow.toNat =
      min 255 (s.events.overflow.toNat + ((faultErrors c s).length - if s.events.capture = none then 1 else 0))

theorem State.enterFault_reports (c : ErrorKind × Nat) (s : State) : FaultReports c s (s.enterFault c).events := by
  obtain ⟨u, host, time, -, events, after, -⟩ := s.enterFault_inner c
  obtain ⟨frame, flags, read, noRead, claims, claimsNot⟩ := u.hostInFault_reports
  rw [after]
  generalize u.hostInFault.events = e at *
  obtain ⟨offerFrame, offered⟩ := State.offerUnordered_offers (faultErrors c s) s
  have unordered := State.offerUnordered_frame (faultErrors c s) s
  generalize s.offerUnordered (faultErrors c s) = v at *
  have store : v.store = s.store := by rw [unordered]
  have raised := v.faultFlags_events
  have flagged := v.faultFlags_flags
  rw [← events] at raised flagged
  rw [store] at flagged
  rw [host] at flags read noRead claims claimsNot
  rw [time] at claims claimsNot
  have offered : Offered s.time.stamp (faultErrors c s) s.events u.events :=
    offered.of_after (by rw [raised]) (by rw [raised])
  have counters : u.events.counters = s.events.counters := by rw [raised, offerFrame]
  have added : (addCount .hostReads u.events).counters = (addCount .hostReads s.events).counters := by
    unfold addCount; rw [counters]
  have some_error : faultErrors c s ≠ [] := by simp [faultErrors]
  have full : u.events.capture ≠ none := by
    by_cases empty : s.events.capture = none
    · obtain ⟨x, -, taken⟩ := (offered.taken empty).resolve_left fun h => some_error h.1
      rw [taken]; exact nofun
    · rw [offered.held empty]; exact empty
  have capture : e.capture = u.events.capture := by
    by_cases claim : readClaims s.host
    · obtain ⟨x, last⟩ := claims claim
      exact last.held full
    · exact (claimsNot claim).held full
  exact {
    frame := by rw [frame, raised, offerFrame]
    flags := fun f => by
      rw [flags, flagged, offerFrame]
      simp only [or_assoc]
    read := fun h => (read h).trans added
    noRead := fun h => (noRead h).trans counters
    held := fun h => capture.trans (offered.held h)
    taken := fun empty => by
      rw [capture]
      exact (offered.taken empty).resolve_left fun h => some_error h.1
    claims := fun claim => by
      obtain ⟨x, last⟩ := claims claim
      rw [last.counted, offered.counted, if_neg full, List.length_singleton]
      omega
    claimsNot := fun claim => by
      rw [(claimsNot claim).counted, offered.counted, if_neg full, List.length_nil]
      omega }

end

/-- Which errors a record can hold after the entry into FAULT, with no access held in BOOT. -/
theorem mem_faultErrors {c x : ErrorKind × Nat} {s : State} (cold : ¬ heldInBoot s.host) (mem : x ∈ faultErrors c s) :
    x = c ∨ ∃ j, s.store.job = some j ∧ x = (.mstale, jobPhysical j * 64) := by
  cases job : s.store.job with
  | none =>
    rw [faultErrors_of_noJob job cold] at mem
    exact .inl (List.mem_singleton.mp mem)
  | some j =>
    rw [faultErrors_of_job job cold] at mem
    simpa using mem

/-- The COMMITTING entry is PINNED, and no entry keeps a sync mark (R123, R194). -/
theorem State.enterFault_entries_of_none {s : State} (none : s.ce.record = none) (c : ErrorKind × Nat) (i : Index) :
    (s.enterFault c).table.entries[i] = { s.table.entries[i] with syncMark := false } := by
  rw [State.enterFault_table, mapEntries_entries, none]

theorem State.enterFault_entries_of_some {s : State} {r : CommitRecord} (record : s.ce.record = some r)
    (c : ErrorKind × Nat) (i : Index) :
    (s.enterFault c).table.entries[i] =
      if r.entry = i then pinnedEntry r.changeSet s.table.entries[i]
      else { s.table.entries[i] with syncMark := false } := by
  rw [State.enterFault_table, mapEntries_entries, record]
  simp only []
  split
  · rename_i same
    subst same
    rw [updateEntry_entries_self]
    simp only [pinnedEntry]
  · rename_i other
    rw [updateEntry_entries_of_ne _ _ (Ne.symm other)]

theorem State.enterFault_lists (c : ErrorKind × Nat) (s : State) :
    (s.enterFault c).table.dueQueue = s.table.dueQueue ∧ (s.enterFault c).table.cleanList = s.table.cleanList := by
  rw [State.enterFault_table, mapEntries_dueQueue, mapEntries_cleanList]
  split <;> exact ⟨rfl, rfl⟩

/-- A read that waits for a grant ends with the filler byte. -/
theorem State.enterFault_host_of_claim {s : State} (claim : readClaims s.host) (c : ErrorKind × Nat) :
    (s.enterFault c).host =
      { bus := if s.host.strobe = some .read ∨ s.host.strobe = some .write then .ended else .idle, pend := none
        strobe := s.host.strobe
        readByte :=
          if s.host.strobe = some .read ∨ s.host.strobe = some .both then some s.cfg.filler else none } := by
  obtain ⟨u, host, -, cfg, -, -, after⟩ := s.enterFault_inner c
  rw [after, ← host, ← cfg]
  rw [← host] at claim
  obtain ⟨q, pend', read', claim'⟩ := claim
  rcases u.hostInFault_cases with ⟨p, pend, read, claim, ends⟩ | ⟨p, pend, read, boot, ends⟩ |
    ⟨p, d, pend, write, boot, ends⟩ | ⟨stays, ends⟩
  · rw [ends]
    exact endAccess_host _ _
  · rw [pend] at pend'; cases pend'; rw [boot] at claim'; cases claim'
  · rw [pend] at pend'; cases pend'; rw [boot] at claim'; cases claim'
  · exact absurd ⟨read', claim'⟩ (stays q pend').2

/-- An access that FAULT does not end is held as before. -/
theorem State.enterFault_host_of_kept {s : State}
    (kept : ∀ p, s.host.pend = some p → p.wait = .admission ∨ p.wait = .granted) (c : ErrorKind × Nat) :
    (s.enterFault c).host = s.host := by
  obtain ⟨u, host, -, -, -, -, after⟩ := s.enterFault_inner c
  rw [after, ← host]
  rw [← host] at kept
  rcases u.hostInFault_cases with ⟨p, pend, read, claim, ends⟩ | ⟨p, pend, read, boot, ends⟩ |
    ⟨p, d, pend, write, boot, ends⟩ | ⟨stays, ends⟩
  · have := kept p pend; simp [claim] at this
  · have := kept p pend; simp [boot] at this
  · have := kept p pend; simp [boot] at this
  · rw [ends]

/-- The overflow count after the entry into FAULT: every error but the one that an empty record takes. -/
theorem FaultReports.overflow {c : ErrorKind × Nat} {s : State} {e : EventUnit} (h : FaultReports c s e) {n : Nat}
    (hosts : heldInBoot s.host ∨ readClaims s.host → n = 1) (neither : ¬ (heldInBoot s.host ∨ readClaims s.host) → n = 0) :
    e.overflow.toNat =
      min 255
        (s.events.overflow.toNat + (if s.events.capture = none then 0 else 1)
          + (if s.store.job = none then 0 else 1) + n) := by
  by_cases claim : readClaims s.host
  · have cold : ¬ heldInBoot s.host := by
      rintro ⟨p, pend, boot⟩
      obtain ⟨q, pend', -, waits⟩ := claim
      rw [pend] at pend'; cases pend'; rw [boot] at waits; cases waits
    rw [h.claims claim, faultErrors_length_of_cold cold, hosts (.inr claim)]
    split <;> split <;> omega
  · rw [h.claimsNot claim]
    by_cases held : heldInBoot s.host
    · rw [faultErrors_length_of_held held, hosts (.inl held)]
      split <;> split <;> omega
    · rw [faultErrors_length_of_cold held, neither (by simp [held, claim])]
      split <;> split <;> omega

/-- Settles O28: the parts of the entry into FAULT, put together. -/
theorem programLimitExpirySendsThePartToFault : Obligations.ProgramLimitExpirySendsThePartToFault := by
  intro s who page rest port timeout held reads claims
  refine ⟨_, exec_programLimitExpiry rest port, ?_⟩
  have reports := s.enterFault_reports (.memtimeout, page * 64)
  have frame := State.enterFault_frame (.memtimeout, page * 64) s
  have entries := fun i => (⟨fun h => State.enterFault_entries_of_none h _ i,
      fun r h => State.enterFault_entries_of_some h _ i⟩ :
    (s.ce.record = none → (s.enterFault (.memtimeout, page * 64)).table.entries[i] = _) ∧
      ∀ r, s.ce.record = some r → (s.enterFault (.memtimeout, page * 64)).table.entries[i] = _)
  obtain ⟨dueQueue, cleanList⟩ := s.enterFault_lists (.memtimeout, page * 64)
  have claimHost : claims → _ := fun h => State.enterFault_host_of_claim (s := s) h (.memtimeout, page * 64)
  have keptHost := fun kept => State.enterFault_host_of_kept (s := s) kept (.memtimeout, page * 64)
  generalize s.enterFault (.memtimeout, page * 64) = t at *
  have store : t.store = storeInFault s.store := by rw [frame]
  refine ⟨frame.trans (by rw [← store]), ?_, fun job => ?_, fun job => ?_, reports.frame, reports.flags, reports.read,
    reports.noRead, reports.held, fun empty cold => ⟨fun job => ?_, fun j job => ?_⟩, ?_, ?_, ?_, fun i => ?_, claimHost,
    keptHost⟩
  · rw [store]
    by_cases job : s.store.job = none
    · rw [storeInFault_of_idle job]
    · rw [storeInFault_of_running job]
  · rw [store, storeInFault_of_running job]
    exact ⟨rfl, rfl, freshTargetAfterFailure_eq _⟩
  · rw [store, storeInFault_of_idle job]
    exact ⟨rfl, rfl, rfl⟩
  · obtain ⟨x, mem, taken⟩ := reports.taken empty
    rw [faultErrors_of_noJob job cold] at mem
    rw [taken, List.mem_singleton.mp mem]
    rfl
  · obtain ⟨x, mem, taken⟩ := reports.taken empty
    rcases mem_faultErrors cold mem with rfl | ⟨j', job', rfl⟩
    · exact .inl taken
    · rw [job] at job'
      cases job'
      refine .inr (taken.trans ?_)
      unfold errorAt jobPhysical
      cases j.target <;> rfl
  · refine reports.overflow ?_ ?_ <;> unfold heldInBoot readClaims <;> cases s.host.pend with
    | none => simp
    | some p => ?_
    · rintro (⟨q, ⟨⟩, boot⟩ | ⟨q, ⟨⟩, claim⟩)
      · exact if_pos (.inl boot)
      · exact if_pos (.inr claim)
    · exact fun neither => if_neg fun waits => neither (waits.imp (⟨p, rfl, ·⟩) (⟨p, rfl, ·⟩))
  · exact dueQueue
  · exact cleanList
  · obtain ⟨none, some⟩ := entries i
    cases record : s.ce.record with
    | none => exact none record
    | some r => exact some r record

end Sys2Proof.Machine
end

section
/-! What the link answers: status and queries (O41, O44, O45, O42), what turns a command down (O40), and SELECT (O35). -/
namespace Sys2Proof.Machine

/-! ### SELECT (R162) -/

/-- Settles O35: by the validity of the two copies, and by the difference of their sequence numbers. -/
theorem selectTakesTheNewerValidCopy : Obligations.SelectTakesTheNewerValidCopy := by
  intro msize a b sa sb
  refine ⟨fun va vb => ?_, fun va vb => ?_, fun va vb => ?_, fun va vb => ⟨fun older => ?_, fun differs ahead => ?_⟩⟩ <;>
    unfold selectCopy <;> rw [va, vb]
  · have notNewer : newerSequence sb sa = false := by
      refine Classical.byContradiction fun newer => ?_
      simp only [newerSequence, Bool.not_eq_false, Bool.and_eq_true, decide_eq_true_eq] at newer
      rcases older with same | half | ahead
      · rw [same, BitVec.sub_self] at newer
        exact absurd newer.1 (by decide)
      · omega
      · rw [BitVec.toNat_sub] at newer ahead
        omega
    exact if_neg (by rw [notNewer]; decide)
  · have newer : newerSequence sb sa = true := by
      have apart : (sb - sa).toNat ≠ 0 := fun zero => differs (BitVec.eq_of_toNat_eq (by
        rw [BitVec.toNat_sub] at zero
        omega))
      simp only [newerSequence, Bool.and_eq_true, decide_eq_true_eq]
      omega
    exact if_pos newer

/-! ### Counts over the entries and over the offsets -/

theorem toList_eq_map_finRange {α : Type} {n : Nat} (v : Vector α n) : v.toList = (List.finRange n).map fun i => v[i] := by
  refine List.ext_getElem (by simp) fun i h h' => ?_
  simp

theorem countP_toList {α : Type} {n : Nat} (v : Vector α n) (p : α → Bool) :
    v.toList.countP p = (List.finRange n).countP fun i => p v[i] := by
  rw [toList_eq_map_finRange, List.countP_map]
  rfl

theorem isDirty_eq (e : Entry) :
    isDirty e = decide (e.state = .settling ∨ e.state = .due ∨ e.state = .committing ∨ e.state = .pinned) := by
  unfold isDirty
  cases e.state <;> rfl

/-! ### Identification and status (R184) -/

theorem exec_getStatus {s : State} (rest : s.atRest) (frame : s.link.frame = .command) :
    exec .getStatus s = .next (s.setFrame (.response (0x80#8 :: statusBytes s))) := by
  have effect : s.takeEffect .getStatus [] = s.setFrame (.response (0x80#8 :: statusBytes s)) := by
    simp [State.takeEffect, decideReply, answeredInBoot, isLong, commandReply, replyGetStatus, answer, responseBytes,
      statusCode]
  exact (State.event_takeBare rest frame .getStatus).trans (congrArg _ effect)

theorem exec_getId {s : State} (rest : s.atRest) (frame : s.link.frame = .command) :
    exec .getId s = .next (s.setFrame (.response [0x80#8, 0x47#8, 0x40#8, 0x01#8])) := by
  have effect : s.takeEffect .getId [] = s.setFrame (.response [0x80#8, 0x47#8, 0x40#8, 0x01#8]) := by
    simp [State.takeEffect, decideReply, answeredInBoot, isLong, commandReply, replyGetId, answer, responseBytes,
      statusCode]
  exact (State.event_takeBare rest frame .getId).trans (congrArg _ effect)

/-- Settles O41: each byte of GET_STATUS is the code, the count or the number that R184 names. -/
theorem identityAndStatusAreAnsweredInEveryMode : Obligations.IdentityAndStatusAreAnsweredInEveryMode := by
  intro s rest frame answered number
  refine ⟨exec_getId rest frame, indexCode (committingIndex s.table), ?_, fun i committing only => ?_, fun none => ?_⟩
  · rw [exec_getStatus rest frame]
    have dirty : BitVec.ofNat 8 (dirtyCount s.table) = number fun e =>
        decide (e.state = .settling) || decide (e.state = .due) || decide (e.state = .committing)
          || decide (e.state = .pinned) := by
      unfold dirtyCount
      rw [countP_toList]
      congr 2
      funext i
      rw [isDirty_eq]
      simp only [Bool.decide_or, Bool.or_assoc]
    have occupied : BitVec.ofNat 8 (occupiedCount s.table) = number fun e => decide (e.state ≠ .free) := by
      unfold occupiedCount
      rw [countP_toList]
      congr 2
      funext i
      show (s.table.entries[i].state != .free) = decide (s.table.entries[i].state ≠ .free)
      cases s.table.entries[i].state <;> rfl
    have pinned : BitVec.ofNat 8 (pinnedCount s.table) = number fun e => decide (e.state = .pinned) := by
      unfold pinnedCount
      rw [countP_toList]
      rfl
    show Host.Outcome.next (answered (statusBytes s)) = _
    unfold statusBytes
    rw [dirty, occupied, pinned]
    rfl
  · have first : committingIndex s.table = some i := by
      refine firstIndex_eq_some_iff.mpr ⟨beq_iff_eq.mpr committing, fun j before => ?_⟩
      refine Classical.byContradiction fun also => ?_
      have := only j (by simpa [inState] using also)
      exact absurd this (Fin.ne_of_lt before)
    rw [first]
    rfl
  · have absent : committingIndex s.table = Option.none :=
      firstIndex_eq_none_iff.mpr fun j => by simpa [inState] using none j
    rw [absent]
    rfl

/-! ### Page and record queries (R188, R189) -/

theorem countOffsets_eq (k : OffsetSet) : countOffsets k = (List.finRange 64).countP fun o => k[o] :=
  countP_toList k id

theorem countOffsets_knownSet (p : PartialPage) :
    countOffsets (knownSet p) = (List.finRange 64).countP fun o => p[o].isSome := by
  rw [countOffsets_eq]
  simp only [knownSet, Fin.getElem_fin, Vector.getElem_ofFn]

theorem entryBytes_of_none {t : SettleTable} {page : Nat} (none : entryFor t page = none) :
    entryBytes t page = [0xFF#8, 0#8, 0#8, 0#8] := by
  unfold entryBytes; rw [none]

theorem entryBytes_of_some {t : SettleTable} {page : Nat} {i : Index} (entry : entryFor t page = some i) :
    entryBytes t page =
      [BitVec.ofNat 8 i.val, entryStateCode t.entries[i].state,
       BitVec.ofNat 8 ((List.finRange 64).countP fun o => t.entries[i].changed[o]),
       BitVec.ofNat 8 ((List.finRange 64).countP fun o => t.entries[i].image[o].isSome)] := by
  unfold entryBytes
  rw [entry, ← countOffsets_eq, ← countOffsets_knownSet]

theorem replyQueryPage_of_inRange {s : State} {hi lo : Byte} (inRange : hi.toNat * 256 + lo.toNat < s.remap.capacity) :
    replyQueryPage [hi, lo] s =
      answer
        (entryBytes s.table (hi.toNat * 256 + lo.toNat) ++ bytes16 (resolvePage s.remap (hi.toNat * 256 + lo.toNat))
          ++ [if (remapOf s.remap (hi.toNat * 256 + lo.toNat)).isSome then 1#8 else 0#8]) s :=
  if_neg (Nat.not_le.mpr inRange)

/-- A page has a REMAP record exactly when its target is a spare. -/
theorem remapOf_isSome {r : RemapUnit} {page n : Nat} (target : resolveTarget r page = .spare n) :
    (remapOf r page).isSome = true := by
  unfold resolveTarget at target
  cases remap : remapOf r page with
  | none => rw [remap] at target; cases target
  | some n => rfl

theorem remapOf_eq_none {r : RemapUnit} {page : Nat} (target : resolveTarget r page = .home) :
    remapOf r page = none := by
  unfold resolveTarget at target
  cases remap : remapOf r page with
  | none => rfl
  | some n => rw [remap] at target; cases target

/-- Settles O44: the page by its capacity check, its entry and its resolution; the record by its place in the list. -/
theorem pageAndRecordQueriesReport : Obligations.PageAndRecordQueriesReport := by
  refine ⟨?_, ?_⟩
  · intro s hi lo rest mode frame page answered
    refine ⟨fun outside => ?_, fun inRange => ?_⟩
    · exact State.event_takeWithLast_of_turnDown (c := .queryPage) rest mode rfl frame rfl
        (st := .badParam) (if_pos outside) nofun
    · have answers := State.event_takeWithLast_of_answer (c := .queryPage) rest mode rfl frame rfl
        (replyQueryPage_of_inRange inRange)
      refine ⟨entryBytes s.table page, resolvePage s.remap page,
        if (remapOf s.remap page).isSome then 1#8 else 0#8, ?_, ?_, fun absent => ?_, fun i occupied here first => ?_⟩
      · refine answers.trans ?_
        rw [List.append_assoc]
        rfl
      · rcases resolvePage_cases s.remap page with ⟨m, mem, kind, same, target, physical⟩ | ⟨none, target, physical⟩
        · exact .inl ⟨m, mem, kind, same, physical, if_pos (remapOf_isSome target)⟩
        · exact .inr ⟨none, physical, by rw [remapOf_eq_none target]; rfl⟩
      · exact entryBytes_of_none (entryFor_eq_none_iff.mpr fun j ⟨occupied, here⟩ => absent j occupied here)
      · rw [entryBytes_of_some (entryFor_eq_some_iff.mpr
          ⟨⟨occupied, here⟩, fun j before ⟨occupied, here⟩ => first j before occupied here⟩)]
        rfl
  · intro s b rest mode frame answered
    refine ⟨fun m record => ?_, fun outside => ?_⟩
    · have reply : replyReadRecord [b] s =
          answer ([kindCode m.kind, BitVec.ofNat 8 m.spare] ++ bytes16 m.page) s := by
        unfold replyReadRecord
        rw [show (arg [b] 0).toNat = b.toNat from rfl, record]
      refine (State.event_takeWithLast_of_answer (c := .readRecord) rest mode rfl frame rfl reply).trans ?_
      cases m.kind <;> rfl
    · have reply : replyReadRecord [b] s = turnDown .refused s := by
        unfold replyReadRecord
        rw [show (arg [b] 0).toNat = b.toNat from rfl, List.getElem?_eq_none outside]
      exact State.event_takeWithLast_of_turnDown (c := .readRecord) rest mode rfl frame rfl reply nofun

/-! ### GET_CONFIG (R190) -/

theorem replyGetConfig_of_item {b : Byte} {i : ConfigItem} (item : itemOfByte b = some i) (s : State) :
    replyGetConfig [b] s = answer (bytes16 (itemValue i s) ++ List.replicate 7 0#8) s := by
  unfold replyGetConfig
  simp only [show arg [b] 0 = b from rfl, item]

theorem replyGetConfig_of_region {b : Byte} {i : Fin 4} (region : b.toNat = 0x10 + i.val) (s : State) :
    replyGetConfig [b] s = answer (regionBytes s.regions.region[i]) s := by
  have none : itemOfByte b = none := by
    unfold itemOfByte
    split <;> first | omega | rfl
  have place : s.regions.region[b.toNat - 0x10]? = some s.regions.region[i] := by
    rw [show b.toNat - 0x10 = i.val by omega]
    exact Vector.getElem?_eq_getElem i.isLt
  unfold replyGetConfig
  simp only [show arg [b] 0 = b from rfl, none, place]
  exact if_neg (by omega)

theorem replyGetConfig_of_unknown {b : Byte} (unknown : (8 < b.toNat ∧ b.toNat < 0x10) ∨ 0x13 < b.toNat) (s : State) :
    replyGetConfig [b] s = turnDown .badParam s := by
  have none : itemOfByte b = none := by
    unfold itemOfByte
    split <;> first | omega | rfl
  unfold replyGetConfig
  simp only [show arg [b] 0 = b from rfl, none]
  split
  · rfl
  · have : s.regions.region[b.toNat - 0x10]? = Option.none := Vector.getElem?_eq_none (by omega)
    rw [this]

/-- Settles O45: by what the item byte names. -/
theorem getConfigReadsTheWorkingValues : Obligations.GetConfigReadsTheWorkingValues := by
  intro s b rest mode frame answered two reads code
  have item {i : ConfigItem} (named : itemOfByte b = some i) : reads (itemValue i s) :=
    (State.event_takeWithLast_of_answer (c := .getConfig) rest mode rfl frame rfl
      (replyGetConfig_of_item named s)).trans rfl
  refine ⟨?_, ?_, ?_, ?_, ?_, ?_, ?_, ?_, ?_, fun i region => ?_, fun unknown => ?_⟩
  · rintro rfl; exact item (i := .budget) rfl
  · rintro rfl; exact item (i := .retryLimit) rfl
  · rintro rfl; exact item (i := .writeStall) rfl
  · rintro rfl; exact item (i := .readStall) rfl
  · rintro rfl; exact item (i := .filler) rfl
  · rintro rfl; exact item (i := .sparesLow) rfl
  · rintro rfl; exact item (i := .defaultPolicy) rfl
  · rintro rfl; exact item (i := .defaultQuiet) rfl
  · rintro rfl; exact item (i := .defaultAge) rfl
  · exact (State.event_takeWithLast_of_answer (c := .getConfig) rest mode rfl frame rfl
      (replyGetConfig_of_region region s)).trans rfl
  · exact State.event_takeWithLast_of_turnDown (c := .getConfig) rest mode rfl frame rfl
      (replyGetConfig_of_unknown unknown s) nofun

/-! ### Events and capture (R185, R186) -/

/-- The two bytes of a word of fifteen bits. -/
theorem wordBytes_linkWord (w : BitVec 15) :
    wordBytes (linkWord w) = [(w.extractLsb' 8 7).setWidth 8, w.extractLsb' 0 8] := by
  have below := w.isLt
  have high : (w.setWidth 16).extractLsb' 8 8 = (w.extractLsb' 8 7).setWidth 8 := by
    refine BitVec.eq_of_toNat_eq ?_
    simp only [BitVec.extractLsb'_toNat, BitVec.toNat_setWidth, Nat.shiftRight_eq_div_pow]
    omega
  have low : (w.setWidth 16).extractLsb' 0 8 = w.extractLsb' 0 8 := by
    refine BitVec.eq_of_toNat_eq ?_
    simp only [BitVec.extractLsb'_toNat, BitVec.toNat_setWidth, Nat.shiftRight_eq_div_pow]
    omega
  unfold wordBytes linkWord
  rw [high, low]

theorem argWord_eq (hi lo : Byte) : argWord [hi, lo] = (hi ++ lo).setWidth 15 := by
  refine BitVec.eq_of_toNat_eq ?_
  show (hi.toNat * 256 + lo.toNat) % 2 ^ 15 = ((hi ++ lo).toNat) % 2 ^ 15
  rw [BitVec.toNat_append, ← Nat.shiftLeft_add_eq_or_of_lt lo.isLt, Nat.shiftLeft_eq]

theorem captureBytes_of_none {e : EventUnit} (empty : e.capture = none) :
    captureBytes e = List.replicate 9 0#8 ++ [e.overflow] := by
  unfold captureBytes; rw [empty]

theorem captureBytes_of_some {e : EventUnit} {c : CapturedError} (held : e.capture = some c) :
    captureBytes e = [1#8, errorCode c.kind] ++ bytes24 c.addr ++ bytes32 c.stamp ++ [e.overflow] := by
  unfold captureBytes; rw [held]

/-- Settles O42: each command by its reply. -/
theorem eventAndCaptureCommandsActOnTheEventUnit : Obligations.EventAndCaptureCommandsActOnTheEventUnit := by
  refine ⟨?_, ?_, by decide⟩
  · intro s hi lo rest mode answered
    refine ⟨fun frame => ?_, fun frame => ?_, fun frame => ?_⟩
    · refine (State.event_takeBare_of_answer (c := .getEvents) rest mode rfl frame rfl).trans ?_
      rw [wordBytes_linkWord, wordBytes_linkWord]
      rfl
    · refine (State.event_takeWithLast_of_answer (c := .clearEvents) rest mode rfl frame rfl rfl).trans ?_
      rw [show [hi] ++ [lo] = [hi, lo] from rfl, argWord_eq]
      rfl
    · refine (State.event_takeWithLast_of_answer (c := .setEnables) rest mode rfl frame rfl rfl).trans ?_
      rw [show [hi] ++ [lo] = [hi, lo] from rfl, argWord_eq]
      rfl
  · intro s rest mode frame answered
    refine ⟨fun empty => ?_, fun c held => ?_, ?_⟩
    · refine (State.event_takeBare_of_answer (c := .getCapture) rest mode rfl frame rfl).trans ?_
      rw [captureBytes_of_none empty]
      rfl
    · refine (State.event_takeBare_of_answer (c := .getCapture) rest mode rfl frame rfl).trans ?_
      rw [captureBytes_of_some held]
      rfl
    · exact State.event_takeBare_of_answer (c := .releaseCapture) rest mode rfl frame rfl

end Sys2Proof.Machine
end

section
/-! Frames and bytes (O39), what turns a command down (O40), and the long commands and REARM (O33, O48 to O50). -/
namespace Sys2Proof.Machine

/-! ### The rows of the commands -/

theorem exec_commandRow_of_bare {c : Command} (bare : argumentCount c = 0) (b : Byte) (s : State) :
    exec (commandRow c b) s = s.event (State.takeBare c) := by
  cases c <;> first | rfl | cases bare

theorem exec_commandRow_of_arguments {c : Command} (arguments : argumentCount c ≠ 0) (b : Byte) (s : State) :
    exec (commandRow c b) s = s.event (State.takeWithLast c b) := by
  cases c <;> first | rfl | exact absurd rfl arguments

section
variable {s : State} (rest : s.atRest) {c : Command} {b : Byte}
include rest

theorem exec_linkByte : exec (.linkByte b) s = .next (s.frameByte b) :=
  State.event_of_atRest rest fun s => s.frameByte b

theorem frameByte_of_bare (frame : s.link.frame = .command) (code : commandOfCode b = some c)
    (bare : argumentCount c = 0) : exec (.linkByte b) s = exec (commandRow c b) s := by
  rw [exec_linkByte rest, exec_commandRow_of_bare bare, State.event_takeBare rest frame]
  unfold State.frameByte
  simp only [frame, code, bare, if_true]

theorem frameByte_of_last {taken : List Byte} (frame : s.link.frame = .arguments c taken)
    (last : taken.length + 1 = argumentCount c) : exec (.linkByte b) s = exec (commandRow c b) s := by
  rw [exec_linkByte rest, exec_commandRow_of_arguments (by omega), State.event_takeWithLast rest frame last]
  unfold State.frameByte
  simp only [frame, last, Nat.lt_irrefl, if_false]

end

/-- Settles O39: the table row by row, the pins, the byte by the frame state it meets. -/
theorem framesAndBytesMoveTheFrameState : Obligations.FramesAndBytesMoveTheFrameState := by
  refine ⟨⟨by decide, fun b other => ?_⟩, fun s rest => ⟨fun released => ?_, fun asserted => ?_, ?_⟩, ?_, ?_, ?_⟩
  · simp only [List.forall_mem_cons, List.not_mem_nil, false_implies, implies_true, and_true] at other
    unfold commandOfCode
    simp only [other, if_false, eq_comm (a := b)]
  · refine (State.pinEvent_of_atRest rest State.lcsFalls id).trans ?_
    have falls : s.lcsFalls = s.setLink { s.link with lcs := true, frame := .command } := by
      unfold State.lcsFalls
      rw [released, rest.1]
      rfl
    exact congrArg _ falls
  · refine (State.pinEvent_of_atRest rest State.lcsFalls id).trans ?_
    have stays : s.lcsFalls = s := if_pos asserted
    exact congrArg _ stays
  · exact State.pinEvent_of_atRest rest State.lcsRises id
  · intro s b rest framed
    have byte := exec_linkByte rest (b := b)
    refine ⟨fun c frame code arguments => ?_, fun c taken frame more => ?_, fun x y more frame => ?_, fun x frame => ?_,
      fun frame => ?_, fun frame unknown => ⟨?_, ?_⟩⟩
    · rw [byte]
      unfold State.frameByte
      simp only [frame, code, arguments, if_false]
      rfl
    · rw [byte]
      unfold State.frameByte
      simp only [frame, more, if_true]
      rfl
    · rw [byte]
      unfold State.frameByte
      simp only [frame]
      rfl
    · rw [byte]
      unfold State.frameByte
      simp only [frame]
      rfl
    · rw [byte]
      unfold State.frameByte
      rcases frame with frame | frame | frame <;> simp only [frame]
    · rw [byte]
      unfold State.frameByte
      simp only [frame, unknown]
      rfl
    · refine (State.event_of_atRest rest fun s =>
        if s.link.frame = .command ∧ commandOfCode b = none then s.takeUnknown else s).trans ?_
      rw [if_pos ⟨frame, unknown⟩]
      rfl
  · exact fun s b c rest => ⟨frameByte_of_bare rest, fun taken => frameByte_of_last rest⟩
  · intro s
    refine ⟨fun idle => ?_, fun up selected => ⟨fun x more frame => ?_, fun other => ?_⟩⟩
    · unfold ldoByte
      rcases idle with reset | released
      · simp [reset]
      · simp [released]
    · unfold ldoByte
      simp only [up, selected, frame]
      rfl
    · unfold ldoByte
      simp only [up, selected, Bool.not_true, Bool.or_self, if_false, Bool.false_eq_true]

/-! ### What turns a command down (R166, R182) -/

theorem answeredInBoot_of_arguments {c : Command} (arguments : argumentCount c ≠ 0) : answeredInBoot c = false := by
  cases c <;> first | rfl | exact absurd rfl arguments

section
variable {s : State} (rest : s.atRest)
include rest

theorem event_takeBare_of_boot (mode : s.mode = .boot) (frame : s.link.frame = .command) {c : Command}
    (late : answeredInBoot c = false) :
    s.event (State.takeBare c) = .next (s.setFrame (.response (0x85#8 :: List.replicate (responseCount c) 0#8))) := by
  rw [State.event_takeBare rest frame, State.takeEffect_of_boot mode late]

theorem event_takeBare_of_collide (mode : s.mode ≠ .boot) (frame : s.link.frame = .command)
    (busy : s.link.longCommand ≠ .none) {c : Command} (long : isLong c = true) :
    s.event (State.takeBare c) = .next (s.setFrame (.response (0x81#8 :: List.replicate (responseCount c) 0#8))) := by
  rw [State.event_takeBare rest frame, State.takeEffect_of_collide mode busy long]

end

/-- Settles O40: by the two checks that come before a command's own. -/
theorem notReadyAndCollideChangeNothing : Obligations.NotReadyAndCollideChangeNothing := by
  intro s last taken rest turned
  refine ⟨fun mode frame => ?_, fun c mode frame final => ?_, fun mode frame busy => ?_⟩
  · have late {c : Command} := event_takeBare_of_boot rest mode frame (c := c)
    exact ⟨late (c := .getEvents) rfl, late (c := .getCapture) rfl, late (c := .releaseCapture) rfl,
      late (c := .clearCounters) rfl, late (c := .sync) rfl, late (c := .save) rfl, late (c := .rearm) rfl⟩
  · have arguments : argumentCount c ≠ 0 := by omega
    have row : exec (commandRow c last) s = .next (turned 0x85#8 (responseCount c)) := by
      rw [exec_commandRow_of_arguments arguments, State.event_takeWithLast rest frame final,
        State.takeEffect_of_boot mode (answeredInBoot_of_arguments arguments)]
      rfl
    exact ⟨(frameByte_of_last rest frame final).trans row, row⟩
  · exact ⟨event_takeBare_of_collide rest mode frame busy (c := .sync) rfl,
      event_takeBare_of_collide rest mode frame busy (c := .save) rfl⟩

end Sys2Proof.Machine
end

section
/-! The long commands and REARM (O33, O48 to O50). -/
namespace Sys2Proof.Machine

/-! ### Their completion (R194, R195) -/

theorem anySyncMark_eq_false {t : SettleTable} : anySyncMark t = false ↔ ∀ i : Index, t.entries[i].syncMark = false := by
  rw [← Bool.not_eq_true, anySyncMark, someEntry_iff]
  simp only [not_exists, Bool.not_eq_true]

theorem clockStageEndDue_eq_false {s : State} (stage : s.boot.stage ≠ .clock 0) : clockStageEndDue s = false := by
  exact beq_false_of_ne stage

theorem pinnedCount_pos {t : SettleTable} : 0 < pinnedCount t ↔ ∃ i : Index, t.entries[i].state = .pinned := by
  unfold pinnedCount
  rw [countP_toList, List.countP_pos_iff]
  simp

/-- Settles O33: each completion is the row that is due. -/
theorem longCommandsComplete : Obligations.LongCommandsComplete := by
  refine ⟨fun s ok up stage noSync report => ?_, fun s up stage sync unmarked => ?_⟩
  · have due : s.due = some .saveComplete := by
      have noSync : (s.link.longCommand == .sync) = false := beq_false_of_ne noSync
      simp [State.due, up, clockStageEndDue_eq_false stage, syncCompleteDue, noSync, saveCompleteDue, report]
    refine (State.followOn_of_due due).trans ?_
    simp only [State.follow, State.finishSave, report]
    cases ok <;> rfl
  · have due : s.due = some .syncComplete := by
      simp [State.due, up, clockStageEndDue_eq_false stage, syncCompleteDue, sync, anySyncMark_eq_false.mpr unmarked]
    refine (State.followOn_of_due due).trans ?_
    simp only [State.follow, State.finishSync, pinnedCount_pos]
    rfl

/-! ### SAVE (R150, R195) -/

theorem State.refreshFlush_of {s : State} (undone : s.flush = .done → s.mode = .holdup → flushDoneHolds s = false) :
    s.refreshFlush = s.setFlush (if s.mode = .holdup ∧ s.flush = .done then .flushing else s.flush) := by
  unfold State.refreshFlush
  by_cases held : s.mode = .holdup ∧ s.flush = .done
  · rw [if_pos held, if_pos ⟨held.1, held.2, undone held.2 held.1⟩]
  · rw [if_neg held, if_neg fun h => held ⟨h.1, h.2.1⟩]
    rfl

/-- The map store after a SAVE outside FAULT. -/
def savedStore (m : MapStore) : MapStore :=
  if m.job = none then { m with startDue := true, saveRequest := .running }
  else { m with persistAgain := true, saveRequest := .waiting }

theorem replySave_of_run {s : State} (run : s.mode ≠ .fault) :
    replySave s =
      answer [] ((s.setStore (savedStore s.store)).setLink { s.link with longCommand := .save }).refreshFlush := by
  unfold replySave savedStore
  rw [if_neg run]
  cases s.store.job <;> rfl

/-- A job is to start, or another is to follow: flush done does not hold. -/
theorem flushDoneHolds_of_saved {s : State} {m : MapStore} (store : s.store = savedStore m) : flushDoneHolds s = false := by
  unfold flushDoneHolds
  rw [store]
  unfold savedStore
  split <;> simp

/-- Settles O49: by the mode. -/
theorem saveStartsOrAwaitsAJob : Obligations.SaveStartsOrAwaitsAJob := by
  intro s rest mode frame free
  refine ⟨fun fault => ?_, fun run => ?_⟩
  · have reply : replySave s = answer [] ((s.setStore { s.store with status := .stale }).raise .mstale) := if_pos fault
    refine (State.event_takeBare rest frame .save).trans ?_
    rw [State.takeEffect_of_free mode free, show commandReply .save [] s = replySave s from rfl, reply]
    rfl
  · refine (State.event_takeBare rest frame .save).trans ?_
    rw [State.takeEffect_of_free mode free, show commandReply .save [] s = replySave s from rfl, replySave_of_run run,
      State.refreshFlush_of fun _ _ => flushDoneHolds_of_saved (m := s.store) rfl]
    rfl

/-! ### REARM (R139, R196) -/

theorem length_indicesWhere (t : SettleTable) (p : Entry → Bool) :
    (indicesWhere t p).length = t.entries.toList.countP p := by
  rw [countP_toList, List.countP_eq_length_filter]
  rfl

theorem State.placeStart_of_on {s : State} (boot : s.mode ≠ .boot) (fault : s.mode ≠ .fault) :
    s.placeStart =
      s.setCe (if s.ce.stage = .idle ∧ s.table.dueQueue ≠ [] then { s.ce with stage := .starting } else s.ce) := by
  have on : s.mode = .run ∨ s.mode = .holdup := by
    cases mode : s.mode
    case boot => exact absurd mode boot
    case fault => exact absurd mode fault
    all_goals simp
  rw [State.placeStart_eq]
  simp only [on, and_true]

/-- An entry that is promoted is DUE: flush done does not hold. -/
theorem flushDoneHolds_of_due {s : State} {i : Index} (due : s.table.entries[i].state = .due) :
    flushDoneHolds s = false := by
  have unflushed : someEntry s.table isUnflushed = true :=
    someEntry_iff.mpr ⟨i, by unfold isUnflushed; rw [due]⟩
  unfold flushDoneHolds
  rw [unflushed]
  rfl

theorem State.refreshFlush_of_holds {s : State} (holds : s.mode = .holdup → s.flush = .done → flushDoneHolds s = true) :
    s.refreshFlush = s := by
  unfold State.refreshFlush
  rw [if_neg fun ⟨mode, flush, not⟩ => by rw [holds mode flush] at not; cases not]

/-- The indices that REARM promotes, ascending. -/
def pinnedIndices (t : SettleTable) : List Index := indicesWhere t (inState .pinned)

/-- The table after REARM. -/
def rearmedTable (t : SettleTable) : SettleTable := promoteAll (pinnedIndices t) t

theorem mem_pinnedIndices {t : SettleTable} {i : Index} : i ∈ pinnedIndices t ↔ t.entries[i].state = .pinned :=
  mem_indicesWhere.trans beq_iff_eq

theorem rearmedTable_of_none {t : SettleTable} (none : pinnedIndices t = []) : rearmedTable t = t := by
  unfold rearmedTable
  rw [none]
  rfl

theorem rearmedTable_due {t : SettleTable} {i : Index} (mem : i ∈ pinnedIndices t) :
    (rearmedTable t).entries[i].state = .due := by
  unfold rearmedTable
  rw [promoteAll_entries, if_pos mem]

/-- Flush done, where it held, holds after REARM exactly when no entry was PINNED (R172). -/
theorem State.refreshFlush_of_rearmed {s u : State} (table : u.table = rearmedTable s.table) (store : u.store = s.store)
    (mode : u.mode = s.mode) (flush : u.flush = s.flush)
    (flushed : s.mode = .holdup → s.flush = .done → flushDoneHolds s = true) :
    u.refreshFlush =
      u.setFlush (if s.mode = .holdup ∧ s.flush = .done ∧ pinnedIndices s.table ≠ [] then .flushing else s.flush) := by
  by_cases none : pinnedIndices s.table = []
  · have holds : flushDoneHolds u = flushDoneHolds s := by
      unfold flushDoneHolds
      rw [table, store, rearmedTable_of_none none]
    rw [State.refreshFlush_of_holds fun holdup done => by
        rw [holds]; exact flushed (mode ▸ holdup) (flush ▸ done),
      if_neg fun h => h.2.2 none, ← flush]
    rfl
  · obtain ⟨i, mem⟩ := List.exists_mem_of_ne_nil _ none
    have due : u.table.entries[i].state = .due := by rw [table]; exact rearmedTable_due mem
    rw [State.refreshFlush_of fun _ _ => flushDoneHolds_of_due due, mode, flush]
    simp only [none, ne_eq, not_false_iff, and_true]

theorem replyRearm_of_run {s : State} (boot : s.mode ≠ .boot) (run : s.mode ≠ .fault)
    (flushed : s.mode = .holdup → s.flush = .done → flushDoneHolds s = true) :
    replyRearm s =
      answer [BitVec.ofNat 8 (pinnedIndices s.table).length]
        { s with
          table := rearmedTable s.table
          ce :=
            if s.ce.stage = .idle ∧ (rearmedTable s.table).dueQueue ≠ [] then { s.ce with stage := .starting } else s.ce
          flush :=
            if s.mode = .holdup ∧ s.flush = .done ∧ pinnedIndices s.table ≠ [] then .flushing else s.flush } := by
  have counted : pinnedCount s.table = (pinnedIndices s.table).length := (length_indicesWhere _ _).symm
  have reply : replyRearm s =
      answer [BitVec.ofNat 8 (pinnedCount s.table)] ((s.setTable (rearmedTable s.table)).placeStart).refreshFlush :=
    if_neg run
  have placed := State.placeStart_of_on (s := s.setTable (rearmedTable s.table)) boot run
  rw [reply, counted, placed]
  exact congrArg _ (State.refreshFlush_of_rearmed (s := s) rfl rfl rfl rfl flushed)

/-- Settles O50: the PINNED entries are promoted together, and flush done fails exactly when there are some. -/
theorem rearmPromotesEveryPinnedEntry : Obligations.RearmPromotesEveryPinnedEntry := by
  intro s rest mode frame
  refine ⟨fun fault => ?_, fun run flushed => ?_⟩
  · have reply : replyRearm s = turnDown .refused s := if_pos fault
    refine (State.event_takeBare rest frame .rearm).trans ?_
    rw [State.takeEffect_of_short mode rfl, show commandReply .rearm [] s = replyRearm s from rfl, reply]
    rfl
  · have steps := State.event_takeBare_of_answer (c := .rearm) rest mode rfl frame (replyRearm_of_run mode run flushed)
    refine ⟨_, pinnedIndices s.table, steps, rfl, indicesWhere_ascending _ _, fun i => mem_pinnedIndices,
      promoteAll_dueQueue _ _, promoteAll_cleanList _ _, fun i => ?_⟩
    refine (promoteAll_entries (pinnedIndices s.table) s.table i).trans ?_
    simp only [mem_pinnedIndices]

/-! ### SYNC (R28, R193) -/

theorem offsetsEmpty_eq_false {k : OffsetSet} : offsetsEmpty k = false ↔ ∃ o : Offset, k[o] = true := by
  unfold offsetsEmpty
  rw [toList_eq_map_finRange]
  simp

/-- What SYNC marks: the COMMITTING entry, and what carries changes and is not PINNED. -/
theorem syncMarks_iff (e : Entry) :
    syncMarks e = true ↔ e.state = .committing ∨ (e.state ≠ .pinned ∧ ∃ o : Offset, e.changed[o] = true) := by
  unfold syncMarks
  simp only [Bool.or_eq_true, beq_iff_eq, Bool.and_eq_true, bne_iff_ne, ne_eq, Bool.not_eq_true', offsetsEmpty_eq_false]

theorem syncMarks_eq (e : Entry) :
    syncMarks e = (e.state == .committing || (e.state != .pinned && (List.finRange 64).any fun o => e.changed[o])) := by
  have some_changed : (!offsetsEmpty e.changed) = (List.finRange 64).any fun o => e.changed[o] := by
    unfold offsetsEmpty
    rw [toList_eq_map_finRange, List.all_map, List.not_all_eq_any_not]
    simp
  unfold syncMarks
  rw [some_changed]

/-- The number of entries that SYNC marks. -/
def syncCount (t : SettleTable) : Nat := (List.finRange 32).countP fun i => syncMarks t.entries[i]

theorem syncCount_eq_zero {t : SettleTable} : syncCount t = 0 ↔ ∀ i : Index, syncMarks t.entries[i] = false := by
  unfold syncCount
  rw [List.countP_eq_zero]
  simp

/-- The indices that SYNC promotes, ascending. -/
def settlingIndices (t : SettleTable) : List Index := indicesWhere t (inState .settling)

theorem mem_settlingIndices {t : SettleTable} {i : Index} : i ∈ settlingIndices t ↔ t.entries[i].state = .settling :=
  mem_indicesWhere.trans beq_iff_eq

theorem syncTable_dueQueue (t : SettleTable) : (syncTable t).dueQueue = t.dueQueue ++ settlingIndices t := by
  unfold syncTable
  rw [promoteAll_dueQueue, mapEntries_dueQueue]
  rfl

theorem syncTable_cleanList (t : SettleTable) : (syncTable t).cleanList = t.cleanList := by
  unfold syncTable
  rw [promoteAll_cleanList, mapEntries_cleanList]

theorem syncTable_entries (t : SettleTable) (i : Index) :
    (syncTable t).entries[i] =
      { t.entries[i] with
        syncMark := syncMarks t.entries[i] || t.entries[i].syncMark
        state := if t.entries[i].state = .settling then .due else t.entries[i].state } := by
  unfold syncTable
  rw [promoteAll_entries, mapEntries_entries]
  show (if i ∈ settlingIndices t then _ else _) = _
  simp only [mem_settlingIndices]
  generalize t.entries[i] = e
  by_cases settling : e.state = .settling <;> cases marks : syncMarks e <;> simp [settling]

/-- The events and the link after a SYNC that is not turned down. -/
theorem replySync_of_run {s : State} (boot : s.mode ≠ .boot) (run : s.mode ≠ .fault) :
    replySync s =
      answer [BitVec.ofNat 8 (syncCount s.table), BitVec.ofNat 8 (pinnedCount s.table)]
        { s with
          table := syncTable s.table
          ce :=
            if s.ce.stage = .idle ∧ (syncTable s.table).dueQueue ≠ [] then { s.ce with stage := .starting } else s.ce
          link :=
            if syncCount s.table = 0 then
              { s.link with
                longCommand := .none
                lastSync := if 0 < pinnedCount (syncTable s.table) then .pinnedRemain else .complete }
            else { s.link with longCommand := .sync }
          events := if syncCount s.table = 0 then raiseFlag .syncdn s.events else s.events } := by
  have reply : replySync s =
      answer [BitVec.ofNat 8 (syncCount s.table), BitVec.ofNat 8 (pinnedCount s.table)]
        (if syncCount s.table = 0 then (s.setTable (syncTable s.table)).finishSync
         else (s.setTable (syncTable s.table)).setLink { s.link with longCommand := .sync }).placeStart := by
    unfold replySync
    rw [if_neg run, countP_toList]
    rfl
  rw [reply]
  by_cases none : syncCount s.table = 0
  · have placed := State.placeStart_of_on (s := (s.setTable (syncTable s.table)).finishSync) boot run
    simp only [none, if_true]
    rw [placed]
    simp only [State.finishSync, State.setTable_table, State.setTable_mode, run, false_or]
    rfl
  · have placed := State.placeStart_of_on
      (s := (s.setTable (syncTable s.table)).setLink { s.link with longCommand := .sync }) boot run
    simp only [none, if_false]
    rw [placed]
    rfl

theorem syncTable_pinned {t : SettleTable} {i : Index} :
    (syncTable t).entries[i].state = .pinned ↔ t.entries[i].state = .pinned := by
  rw [syncTable_entries]
  show (if t.entries[i].state = .settling then .due else t.entries[i].state) = .pinned ↔ _
  cases t.entries[i].state <;> simp

theorem pinnedCount_eq (t : SettleTable) :
    pinnedCount t = (List.finRange 32).countP fun i => t.entries[i].state == .pinned := by
  unfold pinnedCount
  rw [countP_toList]

/-- Settles O48: the table entry by entry; what the link and the events show by whether an entry is marked. -/
theorem syncMarksAndPromotes : Obligations.SyncMarksAndPromotes := by
  intro s rest mode frame free
  refine ⟨fun fault => ?_, fun run => ?_⟩
  · have reply : replySync s = turnDown .refused s := if_pos fault
    refine (State.event_takeBare rest frame .sync).trans ?_
    rw [State.takeEffect_of_free mode free, show commandReply .sync [] s = replySync s from rfl, reply]
    rfl
  · intro marked m p
    have marks (i : Index) : syncMarks s.table.entries[i] = true ↔ marked i := syncMarks_iff _
    have counted : syncCount s.table = m := by
      unfold syncCount
      simp only [syncMarks_eq]
      rfl
    have none_marked : m = 0 ↔ ∀ i, ¬ marked i := by
      rw [← counted, syncCount_eq_zero]
      simp only [← marks, Bool.not_eq_true]
    have none_pinned : p = 0 ↔ ∀ i : Index, s.table.entries[i].state ≠ .pinned := by
      simp [p]
    have pinned : pinnedCount s.table = p := pinnedCount_eq _
    have pinned_after : 0 < pinnedCount (syncTable s.table) ↔ ∃ i : Index, s.table.entries[i].state = .pinned := by
      simp only [pinnedCount_pos, syncTable_pinned]
    have steps : exec .sync s = _ := (State.event_takeBare rest frame .sync).trans (by
      rw [State.takeEffect_of_free mode free, show commandReply .sync [] s = replySync s from rfl,
        replySync_of_run mode run, counted, pinned])
    refine ⟨_, settlingIndices s.table, steps, rfl, rfl, ?_, syncTable_dueQueue _, syncTable_cleanList _,
      indicesWhere_ascending _ _, fun i => mem_settlingIndices, fun i => ⟨?_, ?_⟩, none_marked, none_pinned, rfl,
      fun some_marked => ?_, fun none => ?_⟩
    · show (if m = 0 then _ else _ : Link).lcs = s.link.lcs
      split <;> rfl
    · show (syncTable s.table).entries[i].syncMark = true ↔ _
      rw [syncTable_entries, ← marks]
      exact Bool.or_eq_true _ _ ▸ Iff.rfl
    · show (syncTable s.table).entries[i] = { s.table.entries[i] with
        syncMark := (syncTable s.table).entries[i].syncMark
        state := if s.table.entries[i].state = .settling then .due else s.table.entries[i].state }
      rw [syncTable_entries]
    · obtain ⟨i, mark⟩ := some_marked
      have differs : m ≠ 0 := fun zero => none_marked.mp zero i mark
      simp only [differs, if_false]
      exact ⟨rfl, rfl, rfl⟩
    · have zero : m = 0 := none_marked.mpr none
      simp only [zero, if_true, pinned_after]
      exact ⟨rfl, rfl, rfl⟩

end Sys2Proof.Machine
end

section
/-! The power-fail pin, the flush and HOLDOK (O38). -/
namespace Sys2Proof.Machine

/-- The table after the promotion in age order (R168). -/
def flushTable (s : State) : SettleTable := promoteAll (settlingByAge s.time.stamp s.table) s.table

/-- Entry into HOLDUP with no write waiting. -/
theorem State.enterHoldup_of_none {s : State} (none : waitingWrite s.host = none) :
    s.enterHoldup =
      { s with
        mode := .holdup, flush := .flushing, table := flushTable s
        ce := if s.ce.stage = .idle ∧ (flushTable s).dueQueue ≠ [] then { s.ce with stage := .starting } else s.ce } := by
  have placed := State.placeStart_of_on
    (s := { s with mode := .holdup, flush := .flushing, table := flushTable s }) nofun nofun
  unfold State.enterHoldup
  simp only [State.setTable_host, State.setMode_host, none]
  exact placed

/-- Entry into HOLDUP with a write waiting: it is dropped with HDROP. -/
theorem State.enterHoldup_of_some {s : State} {a : HostAddr} {d : Byte} (waits : waitingWrite s.host = some (a, d)) :
    s.enterHoldup =
      { s with
        mode := .holdup, flush := .flushing, table := flushTable s
        host := (s.endAccess none).host
        events :=
          offerError { kind := .hdrop, addr := BitVec.ofNat 24 a.toNat, stamp := s.time.stamp }
            (raiseFlag .hdrop s.events)
        ce := if s.ce.stage = .idle ∧ (flushTable s).dueQueue ≠ [] then { s.ce with stage := .starting } else s.ce } := by
  have placed := State.placeStart_of_on
    (s := { s with
      mode := .holdup, flush := .flushing, table := flushTable s
      host := (s.endAccess none).host
      events :=
        offerError { kind := .hdrop, addr := BitVec.ofNat 24 a.toNat, stamp := s.time.stamp }
          (raiseFlag .hdrop s.events) }) nofun nofun
  unfold State.enterHoldup
  simp only [State.setTable_host, State.setMode_host, waits]
  exact placed

/-- The queue and the entries after the promotion in age order. -/
theorem flushTable_spec (s : State) :
    (flushTable s).dueQueue = s.table.dueQueue ++ settlingByAge s.time.stamp s.table ∧
      (flushTable s).cleanList = s.table.cleanList ∧
      ∀ i : Index, (flushTable s).entries[i] =
        if s.table.entries[i].state = .settling then { s.table.entries[i] with state := .due }
        else s.table.entries[i] := by
  refine ⟨promoteAll_dueQueue _ _, promoteAll_cleanList _ _, fun i => ?_⟩
  refine (promoteAll_entries _ _ _).trans ?_
  simp only [mem_settlingByAge]

theorem exec_pfwAsserted {s : State} (rest : s.atRest) : exec .pfwAsserted s = .next (s.setPfw true).pfwFalls :=
  State.pinEvent_of_atRest rest (fun s => s.setPfw true) State.pfwFalls

theorem exec_pfwDeasserted {s : State} (rest : s.atRest) : exec .pfwDeasserted s = .next (s.setPfw false).pfwRises :=
  State.pinEvent_of_atRest rest (fun s => s.setPfw false) State.pfwRises

/-- Flush done: no entry is still to be committed, and no job runs, starts or follows (R172). -/
theorem flushDoneHolds_spec {s : State} (holds : flushDoneHolds s = true) :
    s.store.job = none ∧ s.store.persistAgain = false ∧
      ∀ i : Index, s.table.entries[i].state = .free ∨ s.table.entries[i].state = .clean ∨
        s.table.entries[i].state = .pinned := by
  simp only [flushDoneHolds, Bool.and_eq_true, Bool.not_eq_true', Option.isNone_iff_eq_none] at holds
  obtain ⟨⟨⟨flushed, job⟩, again⟩, -⟩ := holds
  refine ⟨job, again, fun i => ?_⟩
  have entry : isUnflushed s.table.entries[i] = false := by
    refine Classical.byContradiction fun still => ?_
    have := someEntry_iff.mpr ⟨i, Bool.not_eq_false _ ▸ still⟩
    rw [flushed] at this
    cases this
  unfold isUnflushed at entry
  cases state : s.table.entries[i].state <;> simp_all

/-- Settles O38: by the mode and by whether a write waits. -/
theorem powerFailPinDrivesHoldupAndFlush : Obligations.PowerFailPinDrivesHoldupAndFlush := by
  refine ⟨fun s rest => ⟨fun other => ?_, fun run => ?_⟩, fun s => ⟨fun rest holdup => ?_, fun rest other => ?_, fun due => ?_⟩,
    fun s => beq_iff_eq⟩
  · have stays : (s.setPfw true).pfwFalls = s.setPfw true := if_neg other
    rw [exec_pfwAsserted rest, stays]
    rfl
  · have falls : (s.setPfw true).pfwFalls = (s.setPfw true).enterHoldup := if_pos run
    obtain ⟨queue, clean, entries⟩ := flushTable_spec s
    have order := settlingByAge_ordered s.time.stamp s.table
    have nodup := settlingByAge_nodup s.time.stamp s.table
    cases waits : waitingWrite s.host with
    | none =>
      refine ⟨_, settlingByAge s.time.stamp s.table, (exec_pfwAsserted rest).trans (congrArg _
        (falls.trans (State.enterHoldup_of_none (s := s.setPfw true) waits))), rfl, queue, clean, nodup,
        fun i => mem_settlingByAge, order, entries, rfl, fun _ => ⟨rfl, rfl⟩, nofun⟩
    | some write =>
      obtain ⟨a, d⟩ := write
      refine ⟨_, settlingByAge s.time.stamp s.table, (exec_pfwAsserted rest).trans (congrArg _
        (falls.trans (State.enterHoldup_of_some (s := s.setPfw true) waits))), rfl, queue, clean, nodup,
        fun i => mem_settlingByAge, order, entries, rfl, nofun, fun a' d' same => ?_⟩
      cases same
      refine ⟨?_, rfl⟩
      show ((s.setPfw true).endAccess none).host = _
      rw [endAccess_host]
      exact congrArg (fun b => ({ bus := _, pend := none, strobe := s.host.strobe, readByte := b } : HostPort)) (ite_self _)
  · have rises : (s.setPfw false).pfwRises = (s.setPfw false).leaveHoldup := if_pos holdup
    rw [exec_pfwDeasserted rest, rises]
    rfl
  · have stays : (s.setPfw false).pfwRises = s.setPfw false := if_neg other
    rw [exec_pfwDeasserted rest, stays]
    rfl
  · have spec : flushDoneDue s = true := (State.due_spec due).2
    simp only [flushDoneDue, Bool.and_eq_true, beq_iff_eq] at spec
    obtain ⟨⟨mode, flush⟩, holds⟩ := spec
    obtain ⟨job, again, entries⟩ := flushDoneHolds_spec holds
    exact ⟨State.followOn_of_due due, mode, flush, job, again, entries⟩

end Sys2Proof.Machine
end

section
/-! The stored copy of the map (O34): its bytes, and what reading it gives. -/
namespace Sys2Proof.Machine

/-! ### Numbers in bytes (R145, R178) -/

theorem num16_bytes {n : Nat} (below : n < 65536) : num16 (BitVec.ofNat 8 (n / 256)) (BitVec.ofNat 8 n) = n := by
  simp only [num16, BitVec.toNat_ofNat]
  omega

theorem toNat_byte {n : Nat} (below : n < 256) : (BitVec.ofNat 8 n).toNat = n := by
  simp only [BitVec.toNat_ofNat]
  omega

theorem num32_bytes (w : BitVec 32) :
    num32 (w.extractLsb' 24 8) (w.extractLsb' 16 8) (w.extractLsb' 8 8) (w.extractLsb' 0 8) = w := by
  unfold num32
  refine BitVec.eq_of_toNat_eq ?_
  have below := w.isLt
  simp only [BitVec.toNat_append, BitVec.extractLsb'_toNat, Nat.shiftRight_eq_div_pow]
  rw [← Nat.shiftLeft_add_eq_or_of_lt (by omega), ← Nat.shiftLeft_add_eq_or_of_lt (by omega),
    ← Nat.shiftLeft_add_eq_or_of_lt (by omega)]
  simp only [Nat.shiftLeft_eq]
  omega

theorem append_wordBytes (w : BitVec 16) : w.extractLsb' 8 8 ++ w.extractLsb' 0 8 = w := by
  refine BitVec.eq_of_toNat_eq ?_
  have below := w.isLt
  rw [BitVec.toNat_append, ← Nat.shiftLeft_add_eq_or_of_lt (BitVec.isLt _)]
  simp only [BitVec.extractLsb'_toNat, Nat.shiftRight_eq_div_pow, Nat.shiftLeft_eq]
  omega

/-- A policy is read back from its code. -/
theorem policyOfCode_byte (p : Policy) :
    (BitVec.ofNat 8 (policyCode p)).toNat ≤ 2 ∧
      (policyOfCode (BitVec.ofNat 8 (policyCode p)).toNat).getD .absorb = p := by
  cases p <;> decide

/-! ### The header page (R145, R147) -/

/-- The CRC that a copy stores. -/
def storedCrc (m : StoredMap) : BitVec 16 := crc16 (coveredBytes (headerFields m) (recordPages m.records))

/-- The 64 bytes of a header page with a CRC, one by one. -/
def headerBytes (m : StoredMap) (crc : BitVec 16) : List Byte :=
  [0x47#8, 0x52#8, 0x4A#8, 0x4D#8, 0x01#8, BitVec.ofNat 8 m.sizeCode,
   m.sequence.extractLsb' 24 8, m.sequence.extractLsb' 16 8, m.sequence.extractLsb' 8 8, m.sequence.extractLsb' 0 8,
   BitVec.ofNat 8 (m.spares / 256), BitVec.ofNat 8 m.spares,
   BitVec.ofNat 8 (m.records.length / 256), BitVec.ofNat 8 m.records.length,
   BitVec.ofNat 8 (policyCode m.regions.dflt.policy),
   BitVec.ofNat 8 (m.regions.dflt.quiet / 256), BitVec.ofNat 8 m.regions.dflt.quiet,
   BitVec.ofNat 8 (m.regions.dflt.age / 256), BitVec.ofNat 8 m.regions.dflt.age,
   BitVec.ofNat 8 m.cfg.budget, BitVec.ofNat 8 m.cfg.retryLimit, BitVec.ofNat 8 m.cfg.writeStall,
   BitVec.ofNat 8 m.cfg.readStall, m.cfg.filler, BitVec.ofNat 8 (m.cfg.sparesLow / 256),
   BitVec.ofNat 8 m.cfg.sparesLow,
   BitVec.ofNat 8 (m.regions.region[0].first / 256), BitVec.ofNat 8 m.regions.region[0].first,
   BitVec.ofNat 8 (m.regions.region[0].count / 256), BitVec.ofNat 8 m.regions.region[0].count,
   BitVec.ofNat 8 (policyCode m.regions.region[0].record.policy),
   BitVec.ofNat 8 (m.regions.region[0].record.quiet / 256), BitVec.ofNat 8 m.regions.region[0].record.quiet,
   BitVec.ofNat 8 (m.regions.region[0].record.age / 256), BitVec.ofNat 8 m.regions.region[0].record.age,
   BitVec.ofNat 8 (m.regions.region[1].first / 256), BitVec.ofNat 8 m.regions.region[1].first,
   BitVec.ofNat 8 (m.regions.region[1].count / 256), BitVec.ofNat 8 m.regions.region[1].count,
   BitVec.ofNat 8 (policyCode m.regions.region[1].record.policy),
   BitVec.ofNat 8 (m.regions.region[1].record.quiet / 256), BitVec.ofNat 8 m.regions.region[1].record.quiet,
   BitVec.ofNat 8 (m.regions.region[1].record.age / 256), BitVec.ofNat 8 m.regions.region[1].record.age,
   BitVec.ofNat 8 (m.regions.region[2].first / 256), BitVec.ofNat 8 m.regions.region[2].first,
   BitVec.ofNat 8 (m.regions.region[2].count / 256), BitVec.ofNat 8 m.regions.region[2].count,
   BitVec.ofNat 8 (policyCode m.regions.region[2].record.policy),
   BitVec.ofNat 8 (m.regions.region[2].record.quiet / 256), BitVec.ofNat 8 m.regions.region[2].record.quiet,
   BitVec.ofNat 8 (m.regions.region[2].record.age / 256), BitVec.ofNat 8 m.regions.region[2].record.age,
   BitVec.ofNat 8 (m.regions.region[3].first / 256), BitVec.ofNat 8 m.regions.region[3].first,
   BitVec.ofNat 8 (m.regions.region[3].count / 256), BitVec.ofNat 8 m.regions.region[3].count,
   BitVec.ofNat 8 (policyCode m.regions.region[3].record.policy),
   BitVec.ofNat 8 (m.regions.region[3].record.quiet / 256), BitVec.ofNat 8 m.regions.region[3].record.quiet,
   BitVec.ofNat 8 (m.regions.region[3].record.age / 256), BitVec.ofNat 8 m.regions.region[3].record.age,
   crc.extractLsb' 8 8, crc.extractLsb' 0 8]

theorem headerFields_append (m : StoredMap) (crc : BitVec 16) :
    headerFields m ++ wordBytes crc = headerBytes m crc := by
  simp only [headerFields, signature, bytes16, bytes32, regionBytes, wordBytes, List.cons_append, List.nil_append,
    headerBytes]

theorem headerPage_get? (m : StoredMap) {k : Nat} (h : k < 64) :
    (headerBytes m (storedCrc m))[k]? = some (headerPage m)[k] := by
  have page : (headerPage m)[k] = (headerBytes m (storedCrc m)).getD k 0#8 := by
    show (Vector.ofFn fun o : Offset => (headerFields m ++ wordBytes (storedCrc m)).getD o.val 0#8)[k] = _
    rw [Vector.getElem_ofFn, headerFields_append]
  have long : (headerBytes m (storedCrc m)).length = 64 := by
    simp only [headerBytes, List.length_cons, List.length_nil]
  rw [page, List.getD_eq_getElem?_getD, List.getElem?_eq_getElem (by omega), Option.getD_some]

/-- A byte of the header page is the byte that the table of R145 has there. -/
theorem headerPage_byte {m : StoredMap} {k : Nat} {b : Byte} (h : k < 64)
    (there : (headerBytes m (storedCrc m))[k]? = some b) : (headerPage m)[k] = b :=
  Option.some.inj ((headerPage_get? m h).symm.trans there)

theorem headerPage_toList (m : StoredMap) : (headerPage m).toList = headerBytes m (storedCrc m) := by
  refine List.ext_getElem? fun k => ?_
  by_cases h : k < 64
  · rw [headerPage_get? m h, List.getElem?_eq_getElem (by simpa using h), Vector.getElem_toList]
  · rw [List.getElem?_eq_none (by simpa using h), List.getElem?_eq_none]
    simp only [headerBytes, List.length_cons, List.length_nil]
    omega

theorem headerPage_fields (m : StoredMap) : (headerPage m).toList.take 62 = headerFields m := by
  have long : (headerFields m).length = 62 := by
    simp only [headerFields, signature, bytes16, bytes32, regionBytes, List.length_append, List.length_cons,
      List.length_nil]
  rw [headerPage_toList, ← headerFields_append, ← long]
  exact List.take_left

theorem headerPage_crc (m : StoredMap) : (headerPage m)[62] ++ (headerPage m)[63] = storedCrc m := by
  rw [headerPage_byte (m := m) (k := 62) (b := (storedCrc m).extractLsb' 8 8) (by omega) rfl,
    headerPage_byte (m := m) (k := 63) (b := (storedCrc m).extractLsb' 0 8) (by omega) rfl]
  exact append_wordBytes _

theorem headerPage_count {m : StoredMap} (short : m.records.length < 65536) :
    headerCount (headerPage m) = m.records.length := by
  unfold headerCount
  rw [headerPage_byte (m := m) (k := 12) (b := BitVec.ofNat 8 (m.records.length / 256)) (by omega) rfl,
    headerPage_byte (m := m) (k := 13) (b := BitVec.ofNat 8 m.records.length) (by omega) rfl]
  exact num16_bytes short

theorem headerPage_signature (m : StoredMap) : signatureOk (headerPage m) = true := by
  unfold signatureOk
  rw [headerPage_byte (m := m) (k := 0) (b := 0x47#8) (by omega) rfl,
    headerPage_byte (m := m) (k := 1) (b := 0x52#8) (by omega) rfl,
    headerPage_byte (m := m) (k := 2) (b := 0x4A#8) (by omega) rfl,
    headerPage_byte (m := m) (k := 3) (b := 0x4D#8) (by omega) rfl]
  rfl

/-! ### The record pages (R146) -/

theorem recordPages_getElem? (records : List MapRecord) {k : Nat} (used : k < usedPages records.length) :
    (recordPages records)[k]? = some (recordPage records (k + 1)) := by
  unfold recordPages
  rw [List.getElem?_map, List.getElem?_range used]
  rfl

theorem recordPage_get_of_some {records : List MapRecord} {k slot : Nat} {r : MapRecord}
    (record : records[16 * k + slot]? = some r) (j : Fin 4) (h : 4 * slot + j.val < 64) :
    (recordPage records (k + 1))[4 * slot + j.val] = recordByte r j := by
  have place : (4 * slot + j.val) / 4 = slot := by omega
  have byte : (4 * slot + j.val) % 4 = j.val := by omega
  unfold recordPage
  rw [Vector.getElem_ofFn]
  simp only [Nat.add_sub_cancel, place, byte, record]

theorem recordPage_get_of_none {records : List MapRecord} {k slot : Nat}
    (none : records[16 * k + slot]? = none) (j : Fin 4) (h : 4 * slot + j.val < 64) :
    (recordPage records (k + 1))[4 * slot + j.val] = 0#8 := by
  have place : (4 * slot + j.val) / 4 = slot := by omega
  unfold recordPage
  rw [Vector.getElem_ofFn]
  simp only [Nat.add_sub_cancel, place, none]

theorem storedRecordByte_recordPages {records : List MapRecord} {i : Nat} (h : i < records.length) (j : Fin 4) :
    storedRecordByte (recordPages records) i j = recordByte records[i] j := by
  have used : i / 16 < usedPages records.length := by unfold usedPages; omega
  have record : records[16 * (i / 16) + i % 16]? = some records[i] := by
    rw [Nat.div_add_mod]
    exact List.getElem?_eq_getElem h
  unfold storedRecordByte
  rw [recordPages_getElem? records used]
  exact recordPage_get_of_some record j (by omega)

/-! ### What reading gives -/

/-- What fits the fields of a stored copy. -/
structure FieldsFit (m : StoredMap) : Prop where
  sizeCode : m.sizeCode < 256
  spares : m.spares < 65536
  count : m.records.length ≤ 256
  records : ∀ r ∈ m.records, r.spare < 256 ∧ r.page < 65536
  dflt : m.regions.dflt.quiet < 65536 ∧ m.regions.dflt.age < 65536
  region : ∀ i : Fin 4, m.regions.region[i].first < 65536 ∧ m.regions.region[i].count < 65536 ∧
    m.regions.region[i].record.quiet < 65536 ∧ m.regions.region[i].record.age < 65536
  cfg : m.cfg.budget < 256 ∧ m.cfg.retryLimit < 256 ∧ m.cfg.writeStall < 256 ∧ m.cfg.readStall < 256 ∧
    m.cfg.sparesLow < 65536

theorem storedRecord_recordPages {records : List MapRecord} {i : Nat} (h : i < records.length)
    (fits : records[i].spare < 256 ∧ records[i].page < 65536) : storedRecord (recordPages records) i = records[i] := by
  unfold storedRecord
  simp only [storedRecordByte_recordPages h]
  generalize records[i] = r at fits
  have spare := toNat_byte fits.1
  have page := num16_bytes fits.2
  obtain ⟨kind, n, p⟩ := r
  cases kind <;> exact congr (congrArg (MapRecord.mk _) spare) page

theorem storedPolicy_bytes {p : PolicyRecord} (fits : p.quiet < 65536 ∧ p.age < 65536) :
    storedPolicy (BitVec.ofNat 8 (policyCode p.policy)) (BitVec.ofNat 8 (p.quiet / 256)) (BitVec.ofNat 8 p.quiet)
      (BitVec.ofNat 8 (p.age / 256)) (BitVec.ofNat 8 p.age) = p := by
  unfold storedPolicy
  rw [(policyOfCode_byte p.policy).2, num16_bytes fits.1, num16_bytes fits.2]

/-- Region record i stands at its place of the header. -/
theorem headerBytes_region (m : StoredMap) (crc : BitVec 16) (i : Fin 4) (j : Fin 9) :
    (headerBytes m crc)[26 + 9 * i.val + j.val]? = (regionBytes m.regions.region[i])[j.val]? := by
  unfold headerBytes regionBytes bytes16
  match i with
  | 0 | 1 | 2 | 3 => match j with | 0 | 1 | 2 | 3 | 4 | 5 | 6 | 7 | 8 => rfl

theorem headerPage_region {m : StoredMap} {i : Fin 4} {j : Fin 9} {b : Byte}
    (there : (regionBytes m.regions.region[i])[j.val]? = some b) :
    (headerPage m)[26 + 9 * i.val + j.val] = b :=
  headerPage_byte (by omega) ((headerBytes_region m _ i j).trans there)

theorem storedRegion_headerPage {m : StoredMap} (fits : FieldsFit m) (i : Fin 4) :
    storedRegion (headerPage m) i = m.regions.region[i] := by
  obtain ⟨first, count, quiet, age⟩ := fits.region i
  have policy := storedPolicy_bytes ⟨quiet, age⟩
  have byte (j : Fin 9) {b : Byte} := headerPage_region (m := m) (i := i) (j := j) (b := b)
  unfold storedRegion
  generalize m.regions.region[i] = g at *
  dsimp only
  rw [byte 0 rfl, byte 1 rfl, byte 2 rfl, byte 3 rfl, byte 4 rfl, byte 5 rfl, byte 6 rfl, byte 7 rfl, byte 8 rfl]
  have firstRead := num16_bytes first
  have countRead := num16_bytes count
  obtain ⟨f, c, p⟩ := g
  show Region.mk (num16 (BitVec.ofNat 8 (f / 256)) (BitVec.ofNat 8 f))
    (num16 (BitVec.ofNat 8 (c / 256)) (BitVec.ofNat 8 c)) _ = _
  rw [firstRead, countRead]
  exact congrArg _ policy

theorem loadCopy_copyPages {m : StoredMap} (fits : FieldsFit m) : loadCopy (copyPages m) = m := by
  have count : headerCount (headerPage m) = m.records.length :=
    headerPage_count (Nat.lt_of_le_of_lt fits.count (by omega))
  have records : (List.range (headerCount (headerPage m))).map (storedRecord (recordPages m.records)) = m.records := by
    rw [count]
    refine List.ext_getElem (by simp) fun i h h' => ?_
    rw [List.getElem_map, List.getElem_range]
    exact storedRecord_recordPages h' (fits.records _ (List.getElem_mem h'))
  have regions : Vector.ofFn (storedRegion (headerPage m)) = m.regions.region := by
    refine Vector.ext fun i h => ?_
    rw [Vector.getElem_ofFn]
    exact storedRegion_headerPage fits ⟨i, h⟩
  have byte {k : Nat} {b : Byte} (h : k < 64) := headerPage_byte (m := m) (k := k) (b := b) h
  have dflt := storedPolicy_bytes fits.dflt
  obtain ⟨budget, retry, write, read, low⟩ := fits.cfg
  show StoredMap.mk _ _ _ ((List.range (headerCount (headerPage m))).map (storedRecord (recordPages m.records)))
    ⟨_, Vector.ofFn (storedRegion (headerPage m))⟩ _ = m
  rw [records, regions]
  simp only [headerOf, copyPages, List.headD_cons]
  rw [byte (k := 5) (by omega) rfl, byte (k := 6) (by omega) rfl, byte (k := 7) (by omega) rfl,
    byte (k := 8) (by omega) rfl, byte (k := 9) (by omega) rfl, byte (k := 10) (by omega) rfl,
    byte (k := 11) (by omega) rfl, byte (k := 14) (by omega) rfl, byte (k := 15) (by omega) rfl,
    byte (k := 16) (by omega) rfl, byte (k := 17) (by omega) rfl, byte (k := 18) (by omega) rfl,
    byte (k := 19) (by omega) rfl, byte (k := 20) (by omega) rfl, byte (k := 21) (by omega) rfl,
    byte (k := 22) (by omega) rfl, byte (k := 23) (by omega) rfl, byte (k := 24) (by omega) rfl,
    byte (k := 25) (by omega) rfl]
  rw [toNat_byte fits.sizeCode, num32_bytes, num16_bytes fits.spares, dflt, toNat_byte budget, toNat_byte retry,
    toNat_byte write, toNat_byte read, num16_bytes low]

end Sys2Proof.Machine
end

section
/-! A copy that the map store writes is valid, and stands as R145 to R147 say (O34). -/
namespace Sys2Proof.Machine

theorem pageCount_le (msize : BitVec 2) : pageCount msize ≤ 32768 := by
  revert msize
  decide

theorem fieldsFit_of_contentsValid {msize : BitVec 2} {m : StoredMap} (size : m.sizeCode = msize.toNat)
    (valid : contentsValid msize m = true) : FieldsFit m := by
  have pages := pageCount_le msize
  have code := msize.isLt
  simp only [contentsValid, recordsValid, Bool.and_eq_true, decide_eq_true_eq, List.all_eq_true, Bool.or_eq_true,
    beq_iff_eq, sparesValid, recordValid, regionValid, settingsValid, logicalCapacity] at valid
  obtain ⟨⟨⟨⟨⟨spares, count⟩, ⟨⟨⟨-, quiet⟩, -⟩, age⟩, -⟩, regions⟩, cfg⟩, ⟨⟨⟨-, bound⟩, retired⟩, remapped⟩, -⟩ := valid
  obtain ⟨⟨⟨⟨⟨⟨⟨-, budget⟩, retry⟩, -⟩, write⟩, -⟩, read⟩, low⟩ := cfg
  have few : m.spares ≤ 256 := by omega
  refine ⟨by omega, by omega, by omega, fun r mem => ⟨?_, ?_⟩, ⟨by omega, by omega⟩, fun i => ?_,
    ⟨by omega, by omega, by omega, by omega, by omega⟩⟩
  · have := bound r mem
    omega
  · cases kind : r.kind with
    | remap =>
      have below : r.page < pageCount msize - 34 - m.spares :=
        of_decide_eq_true ((remapped r mem).resolve_left (by rw [kind]; decide))
      omega
    | retired =>
      have := (retired r mem).resolve_left (by rw [kind]; decide)
      omega
  · have region := regions m.regions.region[i] (by simp)
    omega

@[simp] theorem headerOf_copyPages (m : StoredMap) : headerOf (copyPages m) = headerPage m := rfl
@[simp] theorem tail_copyPages (m : StoredMap) : (copyPages m).tail = recordPages m.records := rfl

theorem copyGenuine_copyPages {m : StoredMap} (count : m.records.length ≤ 256) : copyGenuine (copyPages m) = true := by
  have crc : crc16 (coveredBytes ((headerPage m).toList.take 62) (recordPages m.records)) =
      (headerPage m)[62] ++ (headerPage m)[63] := by
    rw [headerPage_fields, headerPage_crc]
    rfl
  simp only [copyGenuine, headerOf_copyPages, tail_copyPages, headerPage_signature, headerPage_count (m := m) (by omega),
    crc, count, decide_true, Bool.and_self, beq_self_eq_true]

theorem headerPage_sizeCode {m : StoredMap} (small : m.sizeCode < 256) : (headerPage m)[5].toNat = m.sizeCode := by
  rw [headerPage_byte (m := m) (k := 5) (b := BitVec.ofNat 8 m.sizeCode) (by omega) rfl]
  exact toNat_byte small

theorem policyCodesOk_headerPage (m : StoredMap) : policyCodesOk (headerPage m) = true := by
  have byte {k : Nat} {p : Policy} (h : k < 64)
      (there : (headerBytes m (storedCrc m))[k]? = some (BitVec.ofNat 8 (policyCode p))) :
      (headerPage m)[k].toNat ≤ 2 := by
    rw [headerPage_byte h there]
    exact (policyOfCode_byte p).1
  simp only [policyCodesOk, Bool.and_eq_true, decide_eq_true_eq]
  exact ⟨⟨⟨⟨byte (k := 14) (p := m.regions.dflt.policy) (by omega) rfl,
    byte (k := 30) (p := m.regions.region[0].record.policy) (by omega) rfl⟩,
    byte (k := 39) (p := m.regions.region[1].record.policy) (by omega) rfl⟩,
    byte (k := 48) (p := m.regions.region[2].record.policy) (by omega) rfl⟩,
    byte (k := 57) (p := m.regions.region[3].record.policy) (by omega) rfl⟩

theorem kindCodesOk_copyPages {m : StoredMap} (count : m.records.length ≤ 256) : kindCodesOk (copyPages m) = true := by
  show ((List.range (headerCount (headerPage m))).all fun i =>
    storedRecordByte (recordPages m.records) i 0 == 1#8 || storedRecordByte (recordPages m.records) i 0 == 2#8) = true
  rw [headerPage_count (by omega), List.all_eq_true]
  intro i mem
  have inList := List.mem_range.mp mem
  rw [storedRecordByte_recordPages inList]
  show (kindCode m.records[i].kind == 1#8 || kindCode m.records[i].kind == 2#8) = true
  cases m.records[i].kind <;> rfl

/-- A copy of a map that meets the checks on contents is valid, and is read back as it was. -/
theorem copyValid_copyPages {msize : BitVec 2} {m : StoredMap} (size : m.sizeCode = msize.toNat)
    (valid : contentsValid msize m = true) : copyValid msize (copyPages m) = true := by
  have fits := fieldsFit_of_contentsValid size valid
  have loaded := loadCopy_copyPages fits
  have version : (headerPage m)[4] = 0x01#8 := headerPage_byte (by omega) rfl
  simp only [copyValid, headerOf_copyPages, copyGenuine_copyPages fits.count, headerPage_sizeCode fits.sizeCode, size,
    version, policyCodesOk_headerPage, kindCodesOk_copyPages fits.count, loaded, valid, beq_self_eq_true, Bool.and_self]

theorem sizeMismatch_copyPages {m : StoredMap} {other : BitVec 2} (small : m.sizeCode < 256)
    (count : m.records.length ≤ 256) (differs : m.sizeCode ≠ other.toNat) : sizeMismatch other (copyPages m) = true := by
  simp only [sizeMismatch, headerOf_copyPages, copyGenuine_copyPages count, headerPage_sizeCode small, Bool.true_and,
    bne_iff_ne, ne_eq, differs, not_false_iff]

theorem pagesToLoad_headerPage {m : StoredMap} (count : m.records.length ≤ 256) :
    pagesToLoad (headerPage m) = usedPages m.records.length := by
  unfold pagesToLoad
  rw [headerPage_signature, headerPage_count (by omega)]
  simp [count]

/-! ### Bytes at a place of a page -/

/-- The bytes stand in the page from an offset. -/
def standsAt (p : Page) (first : Nat) (bytes : List Byte) : Prop := (p.toList.drop first).take bytes.length = bytes

theorem standsAt_of_get {p : Page} {first : Nat} {bytes : List Byte} (room : first + bytes.length ≤ 64)
    (get : ∀ (j : Nat) (h : j < bytes.length), p[first + j]'(by omega) = bytes[j]) : standsAt p first bytes := by
  refine List.ext_getElem (by simp; omega) fun j h h' => ?_
  rw [List.getElem_take, List.getElem_drop, Vector.getElem_toList]
  exact get j h'

/-- The bytes of a header page stand where the list of its bytes has them. -/
theorem standsAt_headerPage {m : StoredMap} {first : Nat} {bytes : List Byte}
    (there : ((headerBytes m (storedCrc m)).drop first).take bytes.length = bytes) :
    standsAt (headerPage m) first bytes := by
  unfold standsAt
  rw [headerPage_toList]
  exact there

theorem standsAt_recordPage_of_some {records : List MapRecord} {k slot : Nat} {r : MapRecord} (inPage : slot < 16)
    (record : records[16 * k + slot]? = some r) :
    standsAt (recordPage records (k + 1)) (4 * slot)
      [kindCode r.kind, BitVec.ofNat 8 r.spare, BitVec.ofNat 8 (r.page / 256), BitVec.ofNat 8 r.page] := by
  refine standsAt_of_get (by simp; omega) fun j h => ?_
  have small : j < 4 := h
  rw [recordPage_get_of_some record ⟨j, small⟩ (by simp; omega)]
  match j, small with
  | 0, _ | 1, _ | 2, _ | 3, _ => rfl

theorem standsAt_recordPage_of_none {records : List MapRecord} {k slot : Nat} (inPage : slot < 16)
    (none : records[16 * k + slot]? = none) :
    standsAt (recordPage records (k + 1)) (4 * slot) [0#8, 0#8, 0#8, 0#8] := by
  refine standsAt_of_get (by simp; omega) fun j h => ?_
  have small : j < 4 := h
  rw [recordPage_get_of_none none ⟨j, small⟩ (by simp; omega)]
  match j, small with
  | 0, _ | 1, _ | 2, _ | 3, _ => rfl

/-- Region record i stands at byte 26 + 9 i. -/
theorem standsAt_region (m : StoredMap) (i : Fin 4) :
    standsAt (headerPage m) (26 + 9 * i.val) (regionBytes m.regions.region[i]) := by
  have long : (regionBytes m.regions.region[i]).length = 9 := rfl
  refine standsAt_of_get (by omega) fun j h => ?_
  exact headerPage_region (j := ⟨j, long ▸ h⟩) (List.getElem?_eq_getElem h)

theorem recordPages_of_getElem? {records : List MapRecord} {k : Nat} {p : Page} (page : (recordPages records)[k]? = some p) :
    p = recordPage records (k + 1) := by
  have used : k < usedPages records.length := by
    have := (List.getElem?_eq_some_iff.mp page).1
    simpa [recordPages] using this
  rw [recordPages_getElem? records used] at page
  exact (Option.some.inj page).symm

/-- Settles O34: validity and reading back from the bytes of header and record pages; the layout byte by byte. -/
theorem storedCopyReadsBackWhole : Obligations.StoredCopyReadsBackWhole := by
  refine ⟨fun msize m size valid => ?_, ?_, rfl, fun bytes x => ?_, by decide +kernel⟩
  · have fits := fieldsFit_of_contentsValid size valid
    refine ⟨copyValid_copyPages size valid, loadCopy_copyPages fits, ?_, fun other differs => ?_⟩
    · rw [copyPages_length, Nat.add_comm]
      exact congrArg _ (pagesToLoad_headerPage fits.count).symm
    · refine sizeMismatch_copyPages fits.sizeCode fits.count fun same => differs ?_
      exact BitVec.eq_of_toNat_eq (same.symm.trans size)
  · intro m two code stands n d
    have codes (p : Policy) : BitVec.ofNat 8 (policyCode p) = code p := by cases p <;> rfl
    refine ⟨headerPage m, recordPages m.records, rfl, by simp [recordPages, usedPages, n], ?_, ?_, ?_, ?_, ?_, ?_, ?_, ?_,
      ?_, ?_, ?_, ?_, ?_, ?_, ?_, fun i => ?_, ?_, fun k p page slot inPage => ⟨fun r record => ?_, fun none => ?_⟩⟩
    · exact standsAt_headerPage rfl
    · exact standsAt_headerPage rfl
    · exact standsAt_headerPage rfl
    · exact standsAt_headerPage rfl
    · exact standsAt_headerPage rfl
    · exact standsAt_headerPage rfl
    · rw [← codes]; exact standsAt_headerPage rfl
    · exact standsAt_headerPage rfl
    · exact standsAt_headerPage rfl
    · exact standsAt_headerPage rfl
    · exact standsAt_headerPage rfl
    · exact standsAt_headerPage rfl
    · exact standsAt_headerPage rfl
    · exact standsAt_headerPage rfl
    · exact standsAt_headerPage rfl
    · intro g
      rw [← codes]
      exact standsAt_region m i
    · rw [headerPage_crc, headerPage_fields]
      rfl
    · obtain rfl := recordPages_of_getElem? page
      obtain ⟨kind, spare, logical⟩ := r
      cases kind <;> exact standsAt_recordPage_of_some inPage record
    · obtain rfl := recordPages_of_getElem? page
      exact standsAt_recordPage_of_none inPage (List.getElem?_eq_none none)
  · exact List.foldl_append

end Sys2Proof.Machine
end

section
/-! The last load: SELECT, BUILD, and the access held in BOOT (O37). -/
namespace Sys2Proof.Machine

/-! ### The last read of the boot loader -/

theorem exec_lastLoad {s : State} {k page : Nat} (rest : s.atRest) (port : s.port = .reading (.load page))
    (stage : s.boot.stage = .load .b k)
    (last : pagesToLoad (headerOf (s.boot.pagesB ++ [s.readPage page])) ≤ k) :
    exec .loadPageReadComplete s =
      .next (s.setBoot { s.boot with pagesB := s.boot.pagesB ++ [s.readPage page] }).selectAndBuild := by
  refine (State.event_of_atRest rest State.loadReadDone).trans ?_
  unfold State.loadReadDone
  rw [port, stage]
  exact congrArg _ (if_neg (Nat.not_lt.mpr last))

/-! ### LOSS (R202) -/

theorem State.raiseLoss_events (s : State) :
    s.raiseLoss.events =
      { s.events with flags := s.raiseLoss.events.flags, lossPending := s.raiseLoss.events.lossPending } := by
  unfold State.raiseLoss
  split <;> rfl

/-- LOSS is set and loss-pending cleared where it was set. -/
theorem State.raiseLoss_of_pending {s : State} (loss : s.events.lossPending = true) :
    flagIn s.raiseLoss.events.flags .loss = true ∧ s.raiseLoss.events.lossPending = false := by
  unfold State.raiseLoss
  rw [if_pos loss]
  exact ⟨(flagIn_raiseFlag_iff s.events .loss .loss).mpr (.inr rfl), rfl⟩

/-! ### The access held in BOOT ends in FAULT (R123) -/

/-- The end of an access looks at the host port alone. -/
theorem endAccess_host_congr {s t : State} (same : t.host = s.host) (b : Option Byte) :
    (t.endAccess b).host = (s.endAccess b).host := by
  rw [endAccess_host, endAccess_host, same]

theorem State.enterFault_host_of_read {s : State} {p : PendingAccess} (pend : s.host.pend = some p)
    (boot : p.wait = .boot) (read : p.access = .read) (c : ErrorKind × Nat) :
    (s.enterFault c).host = (s.endAccess (some s.cfg.filler)).host := by
  obtain ⟨u, host, -, cfg, -, -, after⟩ := s.enterFault_inner c
  rw [after]
  rw [← host] at pend
  rcases u.hostInFault_cases with ⟨q, pend', read', claim, ends⟩ | ⟨q, pend', read', boot', ends⟩ |
    ⟨q, d, pend', write, boot', ends⟩ | ⟨stays, ends⟩
  · rw [pend] at pend'; cases pend'; rw [boot] at claim; cases claim
  · rw [ends, cfg]
    exact endAccess_host_congr (t := (u.raise .range).count .hostReads) host _
  · rw [pend] at pend'; cases pend'; rw [read] at write; cases write
  · exact absurd boot (stays p pend).1

theorem State.enterFault_host_of_write {s : State} {p : PendingAccess} {d : Byte} (pend : s.host.pend = some p)
    (boot : p.wait = .boot) (write : p.access = .write d) (c : ErrorKind × Nat) :
    (s.enterFault c).host = (s.endAccess none).host := by
  obtain ⟨u, host, -, cfg, -, -, after⟩ := s.enterFault_inner c
  rw [after]
  rw [← host] at pend
  rcases u.hostInFault_cases with ⟨q, pend', read', claim, ends⟩ | ⟨q, pend', read', boot', ends⟩ |
    ⟨q, e, pend', write', boot', ends⟩ | ⟨stays, ends⟩
  · rw [pend] at pend'; cases pend'; rw [boot] at claim; cases claim
  · rw [pend] at pend'; cases pend'; rw [write] at read'; cases read'
  · rw [ends]
    exact endAccess_host_congr (t := u.raise .range) host _
  · exact absurd boot (stays p pend).1

/-! ### The access held in BOOT is taken (R78) -/

section
variable {s : State} {p : PendingAccess} (pend : s.host.pend = some p)
include pend

theorem State.takeHeld_of_read (read : p.access = .read) :
    s.takeHeld = (s.takeRead p.addr).getD (s.setWait .claim) := by
  unfold State.takeHeld
  simp only [pend, read]

theorem State.takeHeld_of_holdup {d : Byte} (write : p.access = .write d) (holdup : s.mode = .holdup) :
    s.takeHeld = s.dropWrite .hdrop .hdrop p.addr := by
  unfold State.takeHeld
  simp only [pend, write, holdup, if_true]

theorem State.takeHeld_of_write {d : Byte} (write : p.access = .write d) (run : s.mode ≠ .holdup) :
    s.takeHeld = (s.takeWrite p.addr d).getD (s.setWait .admission) := by
  unfold State.takeHeld
  simp only [pend, write, run, if_false]

theorem State.setWait_host (w : Wait) : (s.setWait w).host = { s.host with pend := some { p with wait := w } } := by
  unfold State.setWait
  rw [pend]
  rfl

end

theorem State.takeHeld_of_none {s : State} (none : s.host.pend = none) : s.takeHeld = s := by
  unfold State.takeHeld
  rw [none]

/-- A drop leaves the table, ends the access, and sets its flag. -/
theorem State.dropWrite_spec (f : Flag) (k : ErrorKind) (a : HostAddr) (s : State) :
    (s.dropWrite f k a).host = (s.endAccess none).host ∧ (s.dropWrite f k a).table = s.table ∧
      flagIn (s.dropWrite f k a).events.flags f = true := by
  refine ⟨?_, rfl, ?_⟩
  · rw [State.dropWrite, endAccess_host, endAccess_host]; rfl
  · have set := (flagIn_raiseFlag_iff s.events f f).mpr (.inr rfl)
    exact (Reported.offer k a.toNat (s.raise f)).flags f set

theorem offerError_lossPending (err : CapturedError) (e : EventUnit) :
    (offerError err e).lossPending = e.lossPending := by
  unfold offerError
  split <;> rfl

theorem State.takeHeld_lossPending (s : State) : s.takeHeld.events.lossPending = s.events.lossPending := by
  have drop (f : Flag) (k : ErrorKind) (a : HostAddr) :
      (s.dropWrite f k a).events.lossPending = s.events.lossPending := offerError_lossPending _ _
  cases pend : s.host.pend with
  | none => rw [State.takeHeld_of_none pend]
  | some p =>
    cases access : p.access with
    | read =>
      rw [State.takeHeld_of_read pend access]
      rcases State.takeRead_cases p.addr s with ⟨-, e⟩ | ⟨-, ⟨i, b, -, e⟩ | ⟨-, ⟨-, e⟩ | ⟨-, e⟩⟩⟩ <;> rw [e]
      · exact offerError_lossPending _ _
      · rfl
      · exact offerError_lossPending _ _
      · rfl
    | write d =>
      by_cases holdup : s.mode = .holdup
      · rw [State.takeHeld_of_holdup pend access holdup]
        exact drop _ _ _
      · rw [State.takeHeld_of_write pend access holdup]
        rcases State.takeWrite_cases p.addr d s with ⟨-, e⟩ | ⟨-, e⟩ <;> rw [e]
        · exact drop _ _ _
        · rcases State.takeResolvedWrite_cases p.addr d s with ⟨-, e⟩ | ⟨-, ⟨r, -, e⟩ | ⟨-, e⟩⟩ <;> rw [e]
          · exact drop _ _ _
          · show (State.placeStart _).events.lossPending = _
            rw [State.placeStart_frame]
            rfl
          · rfl

/-! ### Boot ends in RUN or HOLDUP (R78, R165) -/

/-- The state in which the access held in BOOT is taken. -/
def State.booted (s : State) : State :=
  let s1 := ((s.bootOver).setPort .idle).raiseLoss
  if s1.pfw then (s1.setMode .holdup).setFlush .flushing else s1.setMode .run

theorem State.endBoot_eq (s : State) : s.endBoot = s.booted.takeHeld := rfl

theorem State.booted_eq (s : State) :
    s.booted =
      { s with
        boot := { stage := .ended, pagesA := [], pagesB := [] }, port := .idle, events := s.raiseLoss.events
        mode := if s.pfw = true then .holdup else .run, flush := if s.pfw = true then .flushing else s.flush } := by
  have events : ((s.bootOver).setPort .idle).raiseLoss.events = s.raiseLoss.events := by
    unfold State.raiseLoss
    show (if s.events.lossPending = true then _ else _ : State).events = _
    split <;> rfl
  unfold State.booted
  rw [State.raiseLoss_frame, events]
  show (if s.pfw = true then _ else _) = _
  split
  · rename_i asserted; rfl
  · rfl

end Sys2Proof.Machine
end

section
/-! The last load ends boot in FAULT, RUN or HOLDUP (O37). -/
namespace Sys2Proof.Machine

/-! ### A held write in RUN, a held read in RUN or HOLDUP (R67, R71, R78) -/

/-- What a held write that is taken in RUN leaves of host and table. -/
structure HeldWriteTaken (s : State) (p : PendingAccess) (d : Byte) : Prop where
  outside : s.remap.capacity ≤ logicalPage p.addr →
    s.takeHeld.host = (s.endAccess none).host ∧ s.takeHeld.table = s.table ∧ flagIn s.takeHeld.events.flags .range = true
  locked : logicalPage p.addr < s.remap.capacity → (resolvePolicy s.regions (logicalPage p.addr)).policy = .locked →
    s.takeHeld.host = (s.endAccess none).host ∧ s.takeHeld.table = s.table ∧ flagIn s.takeHeld.events.flags .locked = true
  taken : ∀ t n, logicalPage p.addr < s.remap.capacity →
    (resolvePolicy s.regions (logicalPage p.addr)).policy ≠ .locked →
    tableWrite s.cfg.budget s.time.stamp (logicalPage p.addr) (pageOffset p.addr) d
      (resolvePolicy s.regions (logicalPage p.addr)) s.table = some (t, n) →
    s.takeHeld.host = (s.endAccess none).host ∧ s.takeHeld.table = t
  waits : logicalPage p.addr < s.remap.capacity →
    (resolvePolicy s.regions (logicalPage p.addr)).policy ≠ .locked →
    tableWrite s.cfg.budget s.time.stamp (logicalPage p.addr) (pageOffset p.addr) d
      (resolvePolicy s.regions (logicalPage p.addr)) s.table = none →
    s.takeHeld.host = { s.host with pend := some { p with wait := .admission } } ∧ s.takeHeld.table = s.table

section
variable {s : State} {p : PendingAccess} (pend : s.host.pend = some p)
include pend

theorem State.heldWriteTaken {d : Byte} (write : p.access = .write d) (run : s.mode ≠ .holdup) : HeldWriteTaken s p d := by
  have takes := State.takeHeld_of_write pend write run
  have inRange : logicalPage p.addr < s.remap.capacity → s.takeHeld =
      (s.takeResolvedWrite p.addr d).getD (s.setWait .admission) := fun below => by
    have within : s.inRange p.addr = true := (State.inRange_iff s p.addr).mpr below
    rw [takes, State.takeWrite, if_pos within]
  refine ⟨fun above => ?_, fun below locked => ?_, fun t n below open_ takesWrite => ?_, fun below open_ full => ?_⟩
  · have outside : ¬ s.inRange p.addr = true := fun within => by
      have := (State.inRange_iff s p.addr).mp within
      omega
    rw [takes, State.takeWrite, if_neg outside]
    exact State.dropWrite_spec .range .range p.addr s
  · rw [inRange below]
    simp only [State.takeResolvedWrite, locked, if_true]
    exact State.dropWrite_spec .locked .locked p.addr s
  · rw [inRange below]
    simp only [State.takeResolvedWrite, open_, if_false, takesWrite, Option.map_some, Option.getD_some]
    rw [State.placeStart_frame]
    exact ⟨endAccess_host_congr (t := ((s.setTable t).count .hostWritesAccepted).count n) rfl _, rfl⟩
  · rw [inRange below]
    simp only [State.takeResolvedWrite, open_, if_false, full, Option.map_none, Option.getD_none]
    exact ⟨State.setWait_host pend .admission, rfl⟩

/-- A held read out of range ends with the filler byte; one that misses is claimed. -/
theorem State.heldReadTaken (read : p.access = .read) (on : s.mode ≠ .fault) :
    (s.remap.capacity ≤ logicalPage p.addr →
      s.takeHeld.host = (s.endAccess (some s.cfg.filler)).host ∧ flagIn s.takeHeld.events.flags .range = true) ∧
    (logicalPage p.addr < s.remap.capacity → tableHit s.table (logicalPage p.addr) (pageOffset p.addr) = none →
      s.takeHeld.host = { s.host with pend := some { p with wait := .claim } } ∧ s.takeHeld.table = s.table) := by
  have takes := State.takeHeld_of_read pend read
  refine ⟨fun above => ?_, fun below misses => ?_⟩
  · have outside : ¬ s.inRange p.addr = true := fun within => by
      have := (State.inRange_iff s p.addr).mp within
      omega
    rw [takes, State.takeRead, if_neg outside]
    have set := (flagIn_raiseFlag_iff s.events .range .range).mpr (.inr rfl)
    exact ⟨endAccess_host_congr (t := (s.report .range .range p.addr).count .hostReads) rfl _,
      (Reported.offer .range p.addr.toNat (s.raise .range)).flags .range set⟩
  · have within : s.inRange p.addr = true := (State.inRange_iff s p.addr).mpr below
    rw [takes, State.takeRead, if_pos within, misses]
    simp only [on, if_false, Option.getD_none]
    exact ⟨State.setWait_host pend .claim, rfl⟩

end

/-! ### The parts of the outcome -/

/-- What the last load leaves, whether or not a copy is a size mismatch. -/
structure BootEnds (s t : State) : Prop where
  frame : t =
    { s with
      boot := { stage := .ended, pagesA := [], pagesB := [] }, mode := t.mode, host := t.host, regions := t.regions
      cfg := t.cfg, table := t.table, ce := t.ce, port := t.port, remap := t.remap, store := t.store, flush := t.flush
      events := t.events, choices := t.choices }
  loss : s.events.lossPending = true → flagIn t.events.flags .loss = true ∧ t.events.lossPending = false

theorem BootEnds.kept {s t : State} (h : BootEnds s t) :
    t.pending = s.pending ∧ t.inReset = s.inReset ∧ t.straps = s.straps ∧ t.time = s.time ∧ t.pnv = s.pnv ∧
      t.pfw = s.pfw ∧ t.link = s.link ∧ t.boot = { stage := .ended, pagesA := [], pagesB := [] } := by
  rw [h.frame]
  exact ⟨rfl, rfl, rfl, rfl, rfl, rfl, rfl, rfl⟩

/-- A size mismatch: boot ends in FAULT. -/
def State.endsMismatched (n : Nat) (s : State) : State := ((s.bootOver).raiseLoss).enterFault (.size, n)

section
variable (s : State) (n : Nat)

theorem State.endsMismatched_ends : BootEnds s (s.endsMismatched n) := by
  have frame := State.enterFault_frame (.size, n) (s.bootOver).raiseLoss
  have reports := State.enterFault_reports (.size, n) (s.bootOver).raiseLoss
  have loss := State.raiseLoss_of_pending (s := s.bootOver)
  refine ⟨?_, fun pending => ?_⟩
  · unfold State.endsMismatched
    rw [frame, State.raiseLoss_frame]
    rfl
  · obtain ⟨set, cleared⟩ := loss pending
    refine ⟨(reports.flags .loss).mpr (.inl set), ?_⟩
    exact (congrArg EventUnit.lossPending reports.frame).trans cleared

/-- The state that enters FAULT has the host's access and the job of the state before. -/
theorem State.bootOver_raiseLoss_eq :
    (s.bootOver).raiseLoss =
      { s with
        boot := { stage := .ended, pagesA := [], pagesB := [] }, events := (s.bootOver).raiseLoss.events } := by
  rw [State.raiseLoss_frame]; rfl

theorem State.endsMismatched_capture (empty : s.events.capture = none) (job : s.store.job = none)
    (idle : s.host.pend = none) :
    (s.endsMismatched n).host = s.host ∧
      (s.endsMismatched n).events.capture =
        some { kind := .size, addr := BitVec.ofNat 24 n, stamp := s.time.stamp } := by
  have reports := State.enterFault_reports (.size, n) (s.bootOver).raiseLoss
  have kept := State.enterFault_host_of_kept (s := (s.bootOver).raiseLoss) (c := (.size, n))
  have still : (s.bootOver).raiseLoss.events.capture = none := by rw [State.raiseLoss_events]; exact empty
  have frame := s.bootOver_raiseLoss_eq
  unfold State.endsMismatched
  generalize (s.bootOver).raiseLoss = u at *
  have host : u.host = s.host := by rw [frame]
  have cold : ¬ heldInBoot u.host := fun ⟨p, pend, _⟩ => by rw [host, idle] at pend; cases pend
  have noJob : u.store.job = none := by rw [frame]; exact job
  refine ⟨(kept fun p pend => ?_).trans host, ?_⟩
  · rw [host, idle] at pend; cases pend
  · obtain ⟨x, mem, taken⟩ := reports.taken still
    rw [faultErrors_of_noJob noJob cold] at mem
    rw [taken, List.mem_singleton.mp mem, frame]
    rfl

theorem State.endsMismatched_held {p : PendingAccess} (pend : s.host.pend = some p) (boot : p.wait = .boot) :
    flagIn (s.endsMismatched n).events.flags .range = true ∧
      (p.access = .read → (s.endsMismatched n).host = (s.endAccess (some s.cfg.filler)).host) ∧
      ∀ d, p.access = .write d → (s.endsMismatched n).host = (s.endAccess none).host := by
  have reports := State.enterFault_reports (.size, n) (s.bootOver).raiseLoss
  have read := State.enterFault_host_of_read (s := (s.bootOver).raiseLoss) (p := p) (c := (.size, n))
  have write := fun d => State.enterFault_host_of_write (s := (s.bootOver).raiseLoss) (p := p) (d := d) (c := (.size, n))
  have frame := s.bootOver_raiseLoss_eq
  unfold State.endsMismatched
  generalize (s.bootOver).raiseLoss = u at *
  have host : u.host = s.host := by rw [frame]
  have cfg : u.cfg = s.cfg := by rw [frame]
  rw [host] at read write
  refine ⟨(reports.flags .range).mpr (.inr (.inr (.inr ⟨rfl, p, host ▸ pend, boot⟩))), fun reads => ?_, fun d writes => ?_⟩
  · rw [read pend boot reads, cfg]
    exact endAccess_host_congr host _
  · rw [write d pend boot writes]
    exact endAccess_host_congr host _

theorem State.endsMismatched_fault :
    (s.endsMismatched n).mode = .fault ∧ (s.endsMismatched n).port = .faulted ∧ (s.endsMismatched n).remap = s.remap ∧
      (s.endsMismatched n).regions = s.regions ∧ (s.endsMismatched n).cfg = s.cfg ∧
      flagIn (s.endsMismatched n).events.flags .mfault = true := by
  have frame := State.enterFault_frame (.size, n) (s.bootOver).raiseLoss
  have reports := State.enterFault_reports (.size, n) (s.bootOver).raiseLoss
  have before := s.bootOver_raiseLoss_eq
  unfold State.endsMismatched
  generalize (s.bootOver).raiseLoss = u at *
  refine ⟨by rw [frame], by rw [frame], ?_, ?_, ?_, (reports.flags .mfault).mpr (.inr (.inl rfl))⟩ <;>
    rw [frame, before]

end

/-- Boot ends in RUN or HOLDUP. -/
theorem State.endBoot_ends (u : State) :
    u.endBoot.mode = (if u.pfw = true then .holdup else .run) ∧ u.endBoot.port = .idle ∧
      (u.pfw = true → u.endBoot.flush = .flushing) ∧ (u.host.pend = none → u.endBoot.host = u.host) ∧
      u.endBoot.remap = u.remap ∧ u.endBoot.regions = u.regions ∧ u.endBoot.cfg = u.cfg ∧ u.endBoot.store = u.store ∧
      flagsKept u.events u.endBoot.events := by
  have booted := u.booted_eq
  have frame := State.takeHeld_frame u.booted
  have none := State.takeHeld_of_none (s := u.booted)
  have flags := takeHeld_flags u.booted
  have raised : flagsKept u.events u.raiseLoss.events := (Reported.raiseLoss u).flags
  rw [State.endBoot_eq]
  generalize u.booted = v at *
  have events : v.events = u.raiseLoss.events := by rw [booted]
  have host : v.host = u.host := by rw [booted]
  refine ⟨?_, ?_, fun asserted => ?_, fun idle => ?_, ?_, ?_, ?_, ?_, fun f set => ?_⟩
  · rw [frame, booted]
  · rw [frame, booted]
  · rw [frame, booted]
    exact if_pos asserted
  · rw [none (host ▸ idle), host]
  · rw [frame, booted]
  · rw [frame, booted]
  · rw [frame, booted]
  · rw [frame, booted]
  · exact flags f (events ▸ raised f set)

theorem State.endBoot_bootEnds {s u : State}
    (same : u = { s with remap := u.remap, regions := u.regions, cfg := u.cfg, store := u.store, events := u.events })
    (pending : u.events.lossPending = s.events.lossPending) : BootEnds s u.endBoot := by
  have booted := u.booted_eq
  have frame := State.takeHeld_frame u.booted
  have flags := takeHeld_flags u.booted
  have cleared := State.takeHeld_lossPending u.booted
  have loss := State.raiseLoss_of_pending (s := u)
  rw [State.endBoot_eq]
  generalize u.booted = v at *
  have events : v.events = u.raiseLoss.events := by rw [booted]
  refine ⟨?_, fun set => ?_⟩
  · rw [frame, booted, same]
  · obtain ⟨flag, clear⟩ := loss (pending.trans set)
    exact ⟨flags .loss (events ▸ flag), cleared.trans (events ▸ clear)⟩

/-- The map, configuration and store that SELECT and BUILD leave (R161 to R165). -/
structure BuiltFrom (s u : State) : Prop where
  same : u = { s with remap := u.remap, regions := u.regions, cfg := u.cfg, store := u.store, events := u.events }
  loss : u.events.lossPending = s.events.lossPending
  selected : ∀ c, selectCopy s.straps.msize s.boot.pagesA s.boot.pagesB = some c →
    let m := loadCopy (if c = .a then s.boot.pagesA else s.boot.pagesB)
    u.remap =
        { built := true, spares := m.spares, capacity := logicalCapacity s.straps.msize m.spares, records := m.records
          lowReport := .clear } ∧
      u.regions = m.regions ∧ u.cfg = m.cfg ∧
      u.store = { MapStore.reset with current := some c, sequence := m.sequence }
  fresh : selectCopy s.straps.msize s.boot.pagesA s.boot.pagesB = none →
    u.remap =
        { built := true, spares := spareCount s.straps.spare
          capacity := logicalCapacity s.straps.msize (spareCount s.straps.spare), records := [], lowReport := .clear } ∧
      u.regions = s.regions ∧ u.cfg = s.cfg ∧ flagIn u.events.flags .fresh = true ∧
      u.store = { MapStore.reset with status := .pending, startDue := true }

theorem State.selectAndBuild_of_match {s : State} (a : sizeMismatch s.straps.msize s.boot.pagesA = false)
    (b : sizeMismatch s.straps.msize s.boot.pagesB = false) :
    ∃ u, BuiltFrom s u ∧ s.selectAndBuild = u.endBoot := by
  simp only [State.selectAndBuild, a, b, Bool.false_eq_true, if_false]
  cases select : selectCopy s.straps.msize s.boot.pagesA s.boot.pagesB with
  | none =>
    have set := (flagIn_raiseFlag_iff s.events .fresh .fresh).mpr (.inr rfl)
    exact ⟨s.buildFresh, ⟨rfl, rfl, by simp [select], fun _ => ⟨rfl, rfl, rfl, set, rfl⟩⟩, rfl⟩
  | some c =>
    cases c with
    | a =>
      refine ⟨s.build .a (loadCopy s.boot.pagesA), ⟨rfl, rfl, fun c here => ?_, by simp [select]⟩, rfl⟩
      rw [select] at here
      cases here
      exact ⟨rfl, rfl, rfl, rfl⟩
    | b =>
      refine ⟨s.build .b (loadCopy s.boot.pagesB), ⟨rfl, rfl, fun c here => ?_, by simp [select]⟩, rfl⟩
      rw [select] at here
      cases here
      exact ⟨rfl, rfl, rfl, rfl⟩

theorem State.selectAndBuild_of_mismatch {s : State}
    (mismatch : sizeMismatch s.straps.msize s.boot.pagesA = true ∨ sizeMismatch s.straps.msize s.boot.pagesB = true) :
    ∃ n, s.selectAndBuild = s.endsMismatched n ∧
      BitVec.ofNat 24 n = if sizeMismatch s.straps.msize s.boot.pagesA = true then 0#24 else 1088#24 := by
  by_cases a : sizeMismatch s.straps.msize s.boot.pagesA = true
  · refine ⟨0, ?_, (if_pos a).symm⟩
    simp only [State.selectAndBuild, a, if_true]
    rfl
  · have b := mismatch.resolve_left a
    refine ⟨1088, ?_, (if_neg a).symm⟩
    simp only [State.selectAndBuild, a, b, if_true]
    rfl

/-- What the last load leaves of the access held in BOOT, when boot ends in RUN or HOLDUP. -/
theorem BuiltFrom.booted {s u : State} (h : BuiltFrom s u) :
    u.booted.host = s.host ∧ u.booted.table = s.table ∧ u.booted.time = s.time ∧
      u.booted.mode = (if s.pfw = true then .holdup else .run) ∧ u.booted.remap = u.endBoot.remap ∧
      u.booted.regions = u.endBoot.regions ∧ u.booted.cfg = u.endBoot.cfg := by
  obtain ⟨-, -, -, -, remap, regions, cfg, -⟩ := u.endBoot_ends
  rw [remap, regions, cfg, u.booted_eq, h.same]
  exact ⟨rfl, rfl, rfl, rfl, rfl, rfl, rfl⟩

/-- Settles O37: by whether a copy is a size mismatch, and then by the access held in BOOT. -/
theorem lastLoadSelectsAndBuilds : Obligations.LastLoadSelectsAndBuilds := by
  intro s k page rest port stage a b last
  have steps := exec_lastLoad rest port stage last
  have ended (x : Option Byte) : ((s.setBoot { s.boot with pagesB := b }).endAccess x).host = _ := endAccess_host _ x
  by_cases mismatch : sizeMismatch s.straps.msize a = true ∨ sizeMismatch s.straps.msize b = true
  · have sound : ¬ (sizeMismatch s.straps.msize a = false ∧ sizeMismatch s.straps.msize b = false) := by
      rintro ⟨soundA, soundB⟩
      rw [soundA, soundB] at mismatch
      exact mismatch.elim nofun nofun
    obtain ⟨n, ends, place⟩ :=
      State.selectAndBuild_of_mismatch (s := s.setBoot { s.boot with pagesB := b }) mismatch
    have outcome := State.endsMismatched_ends (s.setBoot { s.boot with pagesB := b }) n
    have fault := State.endsMismatched_fault (s.setBoot { s.boot with pagesB := b }) n
    have capture := State.endsMismatched_capture (s.setBoot { s.boot with pagesB := b }) n
    have held {p : PendingAccess} :=
      State.endsMismatched_held (s.setBoot { s.boot with pagesB := b }) n (p := p)
    rw [place] at capture
    generalize (s.setBoot { s.boot with pagesB := b }).endsMismatched n = t at *
    obtain ⟨pending, inReset, straps, time, pnv, pfw, link, boot⟩ := outcome.kept
    refine ⟨t, steps.trans (congrArg _ ends), pending, inReset.trans rest.1, straps, time, pnv, pfw, link, boot,
      outcome.loss, fun _ => fault, fun soundA soundB => absurd ⟨soundA, soundB⟩ sound,
      fun _ empty job idle => capture empty job idle, fun p pend wait => ⟨fun _ => ?_,
        fun soundA soundB => absurd ⟨soundA, soundB⟩ sound⟩⟩
    obtain ⟨range, read, write⟩ := held pend wait
    exact ⟨range, fun reads => (read reads).trans (ended _),
      fun d writes => (write d writes).trans (ended none)⟩
  · have soundA : sizeMismatch s.straps.msize a = false := Bool.not_eq_true _ ▸ fun h => mismatch (.inl h)
    have soundB : sizeMismatch s.straps.msize b = false := Bool.not_eq_true _ ▸ fun h => mismatch (.inr h)
    obtain ⟨u, built, ends⟩ :=
      State.selectAndBuild_of_match (s := s.setBoot { s.boot with pagesB := b }) soundA soundB
    have outcome := State.endBoot_bootEnds built.same built.loss
    obtain ⟨host, table, time', mode', remap', regions', cfg'⟩ :
        u.booted.host = s.host ∧ u.booted.table = s.table ∧ u.booted.time = s.time ∧
          u.booted.mode = (if s.pfw = true then .holdup else .run) ∧ u.booted.remap = u.endBoot.remap ∧
          u.booted.regions = u.endBoot.regions ∧ u.booted.cfg = u.endBoot.cfg := built.booted
    have write {p : PendingAccess} {d : Byte} := State.heldWriteTaken (s := u.booted) (p := p) (d := d)
    have drop {p : PendingAccess} {d : Byte} := State.takeHeld_of_holdup (s := u.booted) (p := p) (d := d)
    have read {p : PendingAccess} := State.heldReadTaken (s := u.booted) (p := p)
    obtain ⟨mode, port', flush, kept, remap, regions, cfg, store, flags⟩ := u.endBoot_ends
    have atEnd (x : Option Byte) : (u.booted.endAccess x).host = _ := (endAccess_host_congr host x).trans (ended x)
    have endBoot := u.endBoot_eq
    generalize u.booted = v at *
    generalize u.endBoot = t at *
    subst endBoot
    obtain ⟨pending, inReset, straps, time, pnv, pfw, link, boot⟩ := outcome.kept
    have vPend {p : PendingAccess} (pend : s.host.pend = some p) : v.host.pend = some p :=
      (congrArg HostPort.pend host).trans pend
    have running (released : s.pfw = false) : v.mode = .run := mode'.trans (if_neg (by
      show ¬ s.pfw = true
      rw [released]
      decide))
    have uPfw : u.pfw = s.pfw := by rw [built.same]; rfl
    have uHost : u.host = s.host := by rw [built.same]; rfl
    refine ⟨_, steps.trans (congrArg _ ends), pending, inReset.trans rest.1, straps, time, pnv, pfw, link, boot,
      outcome.loss, fun h => absurd h mismatch, fun _ _ => ⟨uPfw ▸ mode, port', fun h => flush (uPfw.trans h), fun idle => ?_,
        fun c here => ?_, fun none => ?_⟩, fun h => absurd h mismatch, fun p pend wait => ⟨fun h => absurd h mismatch,
        fun _ _ => ⟨fun d writes asserted => ?_, fun d writes released above => ?_,
          fun d writes released below locked => ?_, fun d writes released below open_ => ⟨fun t' n takes => ?_, fun full => ?_⟩,
          fun reads above => ?_, fun reads below misses => ?_⟩⟩⟩
    · exact (kept (uHost ▸ idle)).trans uHost
    · rw [remap, regions, cfg, store]
      exact built.selected c here
    · obtain ⟨map, region, setting, flag, stored⟩ := built.fresh none
      rw [remap, regions, cfg, store]
      exact ⟨map, region, setting, flags .fresh flag, stored⟩
    · obtain ⟨ends, same, flag⟩ := State.dropWrite_spec .hdrop .hdrop p.addr v
      rw [drop (vPend pend) writes (mode'.trans (if_pos asserted))]
      exact ⟨ends.trans (atEnd none), same.trans table, flag⟩
    · obtain ⟨ends, same, flag⟩ := (write (vPend pend) writes (by rw [running released]; decide)).outside (remap' ▸ above)
      exact ⟨ends.trans (atEnd none), same.trans table, flag⟩
    · obtain ⟨ends, same, flag⟩ :=
        (write (vPend pend) writes (by rw [running released]; decide)).locked (remap' ▸ below) (regions' ▸ locked)
      exact ⟨ends.trans (atEnd none), same.trans table, flag⟩
    · rw [← cfg', ← regions', ← table] at takes
      obtain ⟨ends, same⟩ := (write (vPend pend) writes (by rw [running released]; decide)).taken t' n (remap' ▸ below)
        (regions' ▸ open_) (time' ▸ takes)
      exact ⟨ends.trans (atEnd none), same⟩
    · rw [← cfg', ← regions', ← table] at full
      obtain ⟨ends, same⟩ := (write (vPend pend) writes (by rw [running released]; decide)).waits (remap' ▸ below)
        (regions' ▸ open_) (time' ▸ full)
      exact ⟨ends.trans (by rw [host]), same.trans table⟩
    · have on : v.mode ≠ .fault := by rw [mode']; split <;> decide
      obtain ⟨ends, flag⟩ := (read (vPend pend) reads on).1 (remap' ▸ above)
      rw [← cfg']
      exact ⟨ends.trans (atEnd _), flag⟩
    · have on : v.mode ≠ .fault := by rw [mode']; split <;> decide
      obtain ⟨ends, same⟩ := (read (vPend pend) reads on).2 (remap' ▸ below) (table ▸ misses)
      exact ⟨ends.trans (by rw [host]), same.trans table⟩

end Sys2Proof.Machine
end

section
/-! The rows of the host bus and of the settle table (O4, O7 to O9, O13, O15 to O18). -/
namespace Sys2Proof.Machine

/-! ### The arbiter (R120) -/

/-- Settles O4: the order of the claims. -/
theorem arbiterGrantsHostThenMapStoreThenCommit : Obligations.ArbiterGrantsHostThenMapStoreThenCommit := by
  intro s idle
  have open' : ¬ s.port ≠ .idle := fun h => h idle
  unfold grantDue mapStoreClaims
  rw [if_neg open']
  refine ⟨fun read => if_pos read, fun none job => ?_, fun none job stage queue => ?_, fun none job stage record => ?_,
    fun none job stage record => ?_, fun none job stage => ?_⟩ <;> rw [none]
  · exact if_pos job
  · simp [job, stage, queue]
  · simp [job, stage, Option.isSome_iff_ne_none.mpr record]
  · simp [job, stage, Option.isSome_iff_ne_none.mpr record]
  · simp [job, stage]

/-! ### A strobe at an idle bus (R62) -/

section
variable {s : State} (rest : s.atRest)
include rest

theorem exec_hostWrite (a : HostAddr) (d : Byte) :
    exec (.hostWrite a d) s = .next ((s.assertStrobe .write).writeStrobe a d) :=
  State.pinEvent_of_atRest rest (State.assertStrobe .write) (State.writeStrobe a d)

theorem exec_hostRead (a : HostAddr) : exec (.hostRead a) s = .next ((s.assertStrobe .read).readStrobe a) :=
  State.pinEvent_of_atRest rest (State.assertStrobe .read) (State.readStrobe a)

section
variable (idle : s.host.bus = .idle)
include idle

theorem assertStrobe_of_idle (k : Strobe) : s.assertStrobe k = s.setStrobe (some k) := by
  simp [State.assertStrobe, joinStrobe, rest.1, idle]

theorem exec_hostWrite_of_idle (a : HostAddr) (d : Byte) :
    exec (.hostWrite a d) s = .next ((s.setStrobe (some .write)).arriveWrite a d) := by
  rw [exec_hostWrite rest, assertStrobe_of_idle rest idle]
  exact congrArg _ (if_pos idle)

theorem exec_hostRead_of_idle (a : HostAddr) :
    exec (.hostRead a) s = .next ((s.setStrobe (some .read)).arriveRead a) := by
  rw [exec_hostRead rest, assertStrobe_of_idle rest idle]
  exact congrArg _ (if_pos idle)

end
end

theorem inRange_of_lt {s : State} {a : HostAddr} (below : a.toNat < s.remap.capacity * 64) : s.inRange a = true :=
  (State.inRange_iff s a).mpr (by unfold logicalPage; omega)

theorem not_inRange_of_le {s : State} {a : HostAddr} (above : s.remap.capacity * 64 ≤ a.toNat) :
    ¬ s.inRange a = true := fun within => by
  have := (State.inRange_iff s a).mp within
  unfold logicalPage at this
  omega

/-- In RUN and FAULT a write that has arrived meets the checks of R67. -/
theorem State.arriveWrite_of_run {s : State} (on : s.mode = .run ∨ s.mode = .fault) (a : HostAddr) (d : Byte) :
    s.arriveWrite a d = (s.takeWrite a d).getD (s.holdAccess (.write d) a s.cfg.writeStall .admission) := by
  unfold State.arriveWrite
  rcases on with mode | mode <;> rw [mode]

theorem State.takeWrite_of_inRange {s : State} {a : HostAddr} (within : s.inRange a = true) (d : Byte) :
    s.takeWrite a d = s.takeResolvedWrite a d := if_pos within

theorem State.arriveRead_of_on {s : State} (on : s.mode ≠ .boot) (a : HostAddr) :
    s.arriveRead a = (s.takeRead a).getD (s.holdAccess .read a s.cfg.readStall .claim) := by
  unfold State.arriveRead
  cases mode : s.mode
  case boot => exact absurd mode on
  all_goals rfl

theorem State.takeResolvedWrite_of_locked {s : State} {a : HostAddr}
    (locked : (resolvePolicy s.regions (logicalPage a)).policy = .locked) (d : Byte) :
    s.takeResolvedWrite a d = some (s.dropWrite .locked .locked a) := if_pos locked

/-! ### A write as it arrives (R55, R67, R68, R70) -/

section
variable {s : State} (rest : s.atRest) (idle : s.host.bus = .idle)
include rest idle

theorem exec_hostWrite_of_run (on : s.mode = .run ∨ s.mode = .fault) (a : HostAddr) (d : Byte) :
    exec (.hostWrite a d) s =
      .next (((s.setStrobe (some .write)).takeWrite a d).getD
        ((s.setStrobe (some .write)).holdAccess (.write d) a s.cfg.writeStall .admission)) :=
  (exec_hostWrite_of_idle rest idle a d).trans
    (congrArg _ (State.arriveWrite_of_run (s := s.setStrobe (some .write)) on a d))

theorem exec_hostRead_of_on (on : s.mode ≠ .boot) (a : HostAddr) :
    exec (.hostRead a) s =
      .next (((s.setStrobe (some .read)).takeRead a).getD
        ((s.setStrobe (some .read)).holdAccess .read a s.cfg.readStall .claim)) :=
  (exec_hostRead_of_idle rest idle a).trans
    (congrArg _ (State.arriveRead_of_on (s := s.setStrobe (some .read)) on a))

end

/-- Settles O7: by the mode and the checks of R67. -/
theorem refusedHostWriteLeavesOnlyItsTrace : Obligations.RefusedHostWriteLeavesOnlyItsTrace := by
  intro s a d rest idle dropped
  refine ⟨fun holdup => ?_, fun on above => ?_, fun on below locked => ?_⟩
  · have drops : (s.setStrobe (some .write)).arriveWrite a d =
        (s.setStrobe (some .write)).dropWrite .hdrop .hdrop a := by
      unfold State.arriveWrite
      rw [show (s.setStrobe (some .write)).mode = .holdup from holdup]
    rw [exec_hostWrite_of_idle rest idle, drops]
    rfl
  · have outside : ¬ (s.setStrobe (some .write)).inRange a = true := not_inRange_of_le above
    rw [exec_hostWrite_of_run rest idle on, State.takeWrite, if_neg outside]
    rfl
  · have within : (s.setStrobe (some .write)).inRange a = true := inRange_of_lt below
    rw [exec_hostWrite_of_run rest idle on, State.takeWrite_of_inRange within,
      State.takeResolvedWrite_of_locked (s := s.setStrobe (some .write)) locked]
    rfl

/-- The start claim of a mode that is RUN or FAULT. -/
theorem State.placeStart_of_run {s : State} (on : s.mode ≠ .holdup) :
    s.placeStart =
      s.setCe
        (if s.ce.stage = .idle ∧ s.table.dueQueue ≠ [] ∧ s.mode = .run then { s.ce with stage := .starting }
         else s.ce) := by
  rw [State.placeStart_eq]
  simp only [on, or_false]

/-- A write of a page that is not LOCKED and that the table takes. -/
theorem State.takeResolvedWrite_of_taken {s : State} {a : HostAddr} {d : Byte} {t : SettleTable} {n : Counter}
    (open' : (resolvePolicy s.regions (logicalPage a)).policy ≠ .locked)
    (takes : tableWrite s.cfg.budget s.time.stamp (logicalPage a) (pageOffset a) d
      (resolvePolicy s.regions (logicalPage a)) s.table = some (t, n)) :
    s.takeResolvedWrite a d =
      some ((((s.setTable t).count .hostWritesAccepted).count n).endAccess none).placeStart := by
  simp only [State.takeResolvedWrite, if_neg open', takes, Option.map_some]

/-- Settles O8: the write passes the checks and the table takes it. -/
theorem acceptedHostWriteReachesTheTable : Obligations.AcceptedHostWriteReachesTheTable := by
  intro s a d t' n rest idle on below open' takes
  have within : (s.setStrobe (some .write)).inRange a = true := inRange_of_lt below
  have taken := State.takeResolvedWrite_of_taken (s := s.setStrobe (some .write)) open' takes
  have notHoldup : s.mode ≠ .holdup := by rcases on with mode | mode <;> rw [mode] <;> decide
  have started := State.placeStart_of_run
    (s := (((((s.setStrobe (some .write)).setTable t').count .hostWritesAccepted).count n).endAccess none)) notHoldup
  rw [exec_hostWrite_of_run rest idle on, State.takeWrite_of_inRange within, taken, Option.getD_some, started]
  rfl

/-! ### A held access (R65, R71, R77) -/

/-- With the budget spent, a page with no entry or with a CLEAN one waits for admission (R36, R40). -/
theorem tableWrite_of_full {budget page : Nat} {now : Stamp} {o : Offset} {b : Byte} {p : PolicyRecord}
    {t : SettleTable} (needs : ∀ i, entryFor t page = some i → t.entries[i].state = .clean)
    (full : budget ≤ dirtyCount t) : tableWrite budget now page o b p t = none := by
  unfold tableWrite
  cases entry : entryFor t page with
  | none => exact if_neg (Nat.not_lt.mpr full)
  | some i =>
    simp only [needs i entry]
    exact if_neg (Nat.not_lt.mpr full)

/-- A strobe at a bus that is not idle, after the strobes have moved (R62 to R64, log 19). -/
def joinedHost (h : HostPort) (k other : Strobe) : HostPort :=
  { h with
    strobe := if h.strobe = some other then some .both else some k
    bus := if h.bus = .ended ∧ h.strobe = some other then .idle else h.bus }

/-- No access arrives, and ENDED goes to IDLE when both strobes are asserted. -/
theorem followStrobe_joinStrobe (s : State) :
    (s.setStrobe (joinStrobe .write false s.host.strobe)).followStrobe = s.setHost (joinedHost s.host .write .read) ∧
    (s.setStrobe (joinStrobe .read false s.host.strobe)).followStrobe = s.setHost (joinedHost s.host .read .write) := by
  rcases host : s.host with ⟨bus, pend, byte, strobe⟩
  unfold State.followStrobe State.setStrobe joinedHost
  simp only [host, State.setHost_host]
  rcases strobe with _ | k
  · constructor <;> simp [joinStrobe, arrivalHolds]
  · cases k <;> constructor <;> by_cases ended : bus = .ended <;>
      simp [joinStrobe, arrivalHolds, readLinesAsserted, ended] <;> rfl

section
variable {s : State} (rest : s.atRest) (busy : s.host.bus ≠ .idle)
include rest busy

theorem exec_hostWrite_of_busy (a : HostAddr) (d : Byte) :
    exec (.hostWrite a d) s = .next (s.setHost (joinedHost s.host .write .read)) := by
  have strobe : s.assertStrobe .write = s.setStrobe (joinStrobe .write false s.host.strobe) := by
    unfold State.assertStrobe
    rw [rest.1, beq_false_of_ne busy]
    rfl
  rw [exec_hostWrite rest, strobe, ← (followStrobe_joinStrobe s).1]
  exact congrArg _ (if_neg busy)

theorem exec_hostRead_of_busy (a : HostAddr) :
    exec (.hostRead a) s = .next (s.setHost (joinedHost s.host .read .write)) := by
  have strobe : s.assertStrobe .read = s.setStrobe (joinStrobe .read false s.host.strobe) := by
    unfold State.assertStrobe
    rw [rest.1, beq_false_of_ne busy]
    rfl
  rw [exec_hostRead rest, strobe, ← (followStrobe_joinStrobe s).2]
  exact congrArg _ (if_neg busy)

end

theorem State.takeResolvedWrite_of_waiting {s : State} {a : HostAddr} {d : Byte}
    (open' : (resolvePolicy s.regions (logicalPage a)).policy ≠ .locked)
    (waits : tableWrite s.cfg.budget s.time.stamp (logicalPage a) (pageOffset a) d
      (resolvePolicy s.regions (logicalPage a)) s.table = none) : s.takeResolvedWrite a d = none := by
  simp only [State.takeResolvedWrite, if_neg open', waits, Option.map_none]

theorem State.takeRead_of_miss {s : State} {a : HostAddr} (within : s.inRange a = true) (on : s.mode ≠ .fault)
    (misses : tableHit s.table (logicalPage a) (pageOffset a) = none) : s.takeRead a = none := by
  simp only [State.takeRead, within, if_true, misses, if_neg on]

/-- Settles O9: by the bus, the mode and the checks that the access passes. -/
theorem heldAccessFillsThePendingRecord : Obligations.HeldAccessFillsThePendingRecord := by
  refine ⟨?_, ?_⟩
  · intro s a d rest held
    refine ⟨fun idle boot => ?_, fun idle on below open' needs full => ?_, exec_hostWrite_of_busy rest (a := a) (d := d)⟩
    · have holds : (s.setStrobe (some .write)).arriveWrite a d =
          (s.setStrobe (some .write)).holdAccess (.write d) a bootStallLimit .boot := by
        unfold State.arriveWrite
        rw [show (s.setStrobe (some .write)).mode = .boot from boot]
      rw [exec_hostWrite_of_idle rest idle, holds]
      rfl
    · have within : (s.setStrobe (some .write)).inRange a = true := inRange_of_lt below
      have waits := State.takeResolvedWrite_of_waiting (s := s.setStrobe (some .write)) (d := d) open'
        (tableWrite_of_full needs full)
      rw [exec_hostWrite_of_run rest idle on, State.takeWrite_of_inRange within, waits]
      rfl
  · intro s a rest held
    refine ⟨fun idle boot => ?_, fun idle on below misses => ?_, exec_hostRead_of_busy rest (a := a)⟩
    · have holds : (s.setStrobe (some .read)).arriveRead a =
          (s.setStrobe (some .read)).holdAccess .read a bootStallLimit .boot := by
        unfold State.arriveRead
        rw [show (s.setStrobe (some .read)).mode = .boot from boot]
      rw [exec_hostRead_of_idle rest idle, holds]
      rfl
    · have boot : s.mode ≠ .boot := by rcases on with mode | mode <;> rw [mode] <;> decide
      have fault : s.mode ≠ .fault := by rcases on with mode | mode <;> rw [mode] <;> decide
      have within : (s.setStrobe (some .read)).inRange a = true := inRange_of_lt below
      have claims := State.takeRead_of_miss (s := s.setStrobe (some .read)) within fault misses
      rw [exec_hostRead_of_on rest idle boot, claims]
      rfl

/-! ### A read as it arrives (R45, R71, R74, R76) -/

theorem State.takeRead_of_hit {s : State} {a : HostAddr} {i : Index} {b : Byte} (within : s.inRange a = true)
    (hit : tableHit s.table (logicalPage a) (pageOffset a) = some (i, b)) :
    s.takeRead a = some (((s.setTable (touchClean i s.table)).count .readsFromTable).endRead b) := by
  simp only [State.takeRead, within, if_true, hit]

theorem State.takeRead_of_faultMiss {s : State} {a : HostAddr} (within : s.inRange a = true) (fault : s.mode = .fault)
    (misses : tableHit s.table (logicalPage a) (pageOffset a) = none) :
    s.takeRead a = some ((s.offer .memtimeout a.toNat).endRead s.cfg.filler) := by
  simp only [State.takeRead, within, if_true, misses, fault]

theorem State.takeRead_of_outside {s : State} {a : HostAddr} (outside : ¬ s.inRange a = true) :
    s.takeRead a = some ((s.report .range .range a).endRead s.cfg.filler) := if_neg outside

theorem tableHit_of_entry {t : SettleTable} {page : Nat} {o : Offset} {i : Index} {b : Byte}
    (entry : entryFor t page = some i) (known : t.entries[i].image[o] = some b) : tableHit t page o = some (i, b) := by
  unfold tableHit
  simp only [entry, known, Option.map_some]

/-- Settles O16: by range, table and mode. -/
theorem hostReadEndsAsItArrives : Obligations.HostReadEndsAsItArrives := by
  refine ⟨fun s a i b rest idle on below entry known => ?_, ?_⟩
  · have within : (s.setStrobe (some .read)).inRange a = true := inRange_of_lt below
    have hits := State.takeRead_of_hit (s := s.setStrobe (some .read)) within (tableHit_of_entry entry known)
    rw [exec_hostRead_of_on rest idle on, hits]
    rfl
  · intro s a rest idle ended error
    refine ⟨fun on above => ?_, fun fault below misses => ?_⟩
    · have outside : ¬ (s.setStrobe (some .read)).inRange a = true := not_inRange_of_le above
      rw [exec_hostRead_of_on rest idle on, State.takeRead_of_outside outside]
      rfl
    · have within : (s.setStrobe (some .read)).inRange a = true := inRange_of_lt below
      have filler := State.takeRead_of_faultMiss (s := s.setStrobe (some .read)) within fault misses
      rw [exec_hostRead_of_on rest idle (by rw [fault]; decide), filler]
      rfl

/-! ### A waiting write taken again (R40) -/

theorem State.retakeWrite_of_waiting {s : State} {a : HostAddr} {d : Byte} (waits : waitingWrite s.host = some (a, d)) :
    s.retakeWrite = (s.takeResolvedWrite a d).getD s := by
  unfold State.retakeWrite
  rw [waits]

theorem endAccess_eq (s : State) (b : Option Byte) :
    s.endAccess b =
      s.setHost
        { bus := if s.host.strobe = some .read ∨ s.host.strobe = some .write then .ended else .idle, pend := none
          strobe := s.host.strobe
          readByte := if s.host.strobe = some .read ∨ s.host.strobe = some .both then b else none } :=
  congrArg s.setHost (endAccess_host s b)

/-- An access ends with no byte. -/
theorem endAccess_none_eq (s : State) :
    s.endAccess none =
      s.setHost
        { bus := if s.host.strobe = some .read ∨ s.host.strobe = some .write then .ended else .idle, pend := none
          strobe := s.host.strobe, readByte := none } := by
  rw [endAccess_eq, ite_self]

/-- Settles O13: by the policy that the page has now. -/
theorem waitingWriteIsTakenAgain : Obligations.WaitingWriteIsTakenAgain := by
  intro s a d due waits ended
  have steps : exec .waitingWriteTakenAgain s = .next ((s.takeResolvedWrite a d).getD s) :=
    (State.followOn_of_due due).trans (congrArg _ (State.retakeWrite_of_waiting waits))
  have run : s.mode ≠ .holdup := by
    have spec : waitingWriteDue s = true := (State.due_spec due).2
    intro holdup
    rw [waitingWriteDue, holdup] at spec
    cases spec
  refine ⟨fun locked => ?_, fun t' n open' takes => ?_⟩
  · rw [steps, State.takeResolvedWrite_of_locked locked, State.dropWrite, endAccess_none_eq]
    rfl
  · have taken := State.takeResolvedWrite_of_taken open' takes
    have started := State.placeStart_of_run
      (s := ((((s.setTable t').count .hostWritesAccepted).count n).endAccess none)) run
    rw [steps, taken, Option.getD_some, started, endAccess_none_eq]
    rfl

/-! ### The BYTE READ (R72, R73, R113) -/

theorem exec_byteReadComplete {s : State} (rest : s.atRest) {page : Nat} {o : Offset}
    (port : s.port = .reading (.hostByte page o)) :
    exec .byteReadComplete s = .next ((s.setPort .idle).byteReadDone (s.readByte page o)) := by
  refine (State.event_of_atRest rest State.hostByteDone).trans ?_
  unfold State.hostByteDone
  rw [port]

/-- Settles O17: the grant resolves the page of the claim; the byte ends the read that was granted. -/
theorem byteReadResolvesAtGrantAndEndsTheGrantedRead : Obligations.ByteReadResolvesAtGrantAndEndsTheGrantedRead := by
  refine ⟨fun s a p due pend read claim addr => ?_, fun s page o rest port => ⟨fun granted => ?_, fun other => ?_⟩⟩
  · have waits : waitingRead s.host = some a := by
      obtain ⟨access, place, limit, left, wait⟩ := p
      obtain rfl : access = .read := read
      obtain rfl : wait = .claim := claim
      obtain rfl : place = a := addr
      unfold waitingRead
      rw [pend]
    refine ⟨resolvePage s.remap (logicalPage a), ?_, ?_⟩
    · have grants : s.grantByteRead =
          (s.setWait .granted).setPort (.reading (.hostByte (resolvePage s.remap (logicalPage a)) (pageOffset a))) := by
        unfold State.grantByteRead
        rw [waits]
      refine (State.followOn_of_due due).trans (congrArg _ (grants.trans ?_))
      unfold State.setWait
      rw [pend]
      rfl
    · rcases resolvePage_cases s.remap (logicalPage a) with ⟨m, mem, kind, same, -, physical⟩ | ⟨none, -, physical⟩
      · exact .inl ⟨m, mem, kind, same, physical⟩
      · exact .inr ⟨none, physical⟩
  · obtain ⟨p, pend, wait⟩ := granted
    have ends : (s.setPort .idle).byteReadDone (s.readByte page o) = (s.setPort .idle).endRead (s.readByte page o) := by
      obtain ⟨access, place, limit, left, w⟩ := p
      obtain rfl : w = .granted := wait
      unfold State.byteReadDone
      simp only [State.setPort_host, pend]
    have byte : s.readByte page o =
        readCell s.pnv.cells ((page * 64 + o.val) % (4096 * 2 ^ s.straps.msize.toNat * 64)) := by
      simp only [State.readByte, State.readPage, readCells, Fin.getElem_fin, Vector.getElem_ofFn, pnvAddress, pageCount]
    rw [exec_byteReadComplete rest port, ends, State.endRead, endAccess_eq, byte]
    generalize readCell s.pnv.cells ((page * 64 + o.val) % (4096 * 2 ^ s.straps.msize.toNat * 64)) = b
    rfl
  · have stays : (s.setPort .idle).byteReadDone (s.readByte page o) = s.setPort .idle := by
      unfold State.byteReadDone
      split
      · rename_i pend
        exact absurd rfl (other _ pend)
      · rfl
    rw [exec_byteReadComplete rest port, stays]
    rfl

/-! ### Stall expiry and strobe release (R62 to R66, R79) -/

theorem exec_stallExpiry {s : State} (rest : s.atRest) {p : PendingAccess} (pend : s.host.pend = some p)
    (expired : p.stallLeft = 0) : exec .stallExpiry s = .next s.stallExpires := by
  have stall : stallExpired s.host = true := by
    unfold stallExpired
    rw [pend]
    exact beq_iff_eq.mpr expired
  refine (State.event_of_atRest rest fun s => if stallExpired s.host then s.stallExpires else s).trans ?_
  rw [if_pos stall]

theorem State.stallExpires_of_write {s : State} {p : PendingAccess} {d : Byte} (pend : s.host.pend = some p)
    (write : p.access = .write d) : s.stallExpires = s.dropWrite .wrstall .wrstall p.addr := by
  unfold State.stallExpires
  simp only [pend, write]

theorem State.stallExpires_of_read {s : State} {p : PendingAccess} (pend : s.host.pend = some p)
    (read : p.access = .read) : s.stallExpires = (s.report .rdstall .rdstall p.addr).endRead s.cfg.filler := by
  unfold State.stallExpires
  simp only [pend, read]

theorem exec_arrivalConditionFalse {s : State} (rest : s.atRest) :
    exec .arrivalConditionFalse s = .next (s.setStrobe none).followStrobe :=
  State.pinEvent_of_atRest rest (State.setStrobe none) State.followStrobe

/-- HD while HCS# and HRD# are asserted. -/
theorem hostData_of_asserted {s : State} (up : s.inReset = false)
    (lines : s.host.strobe = some .read ∨ s.host.strobe = some .both) :
    (∀ p, s.host.bus = .pending → s.host.pend = some p →
      (p.access = .read → hostData s = .undefinedValue) ∧ (∀ d, p.access = .write d → hostData s = .notDriven)) ∧
    (s.host.bus ≠ .pending → ∀ b, s.host.readByte = some b → hostData s = .driven b) ∧
    (s.host.bus ≠ .pending → s.host.readByte = none → hostData s = .notDriven) := by
  have asserted : readLinesAsserted s.host.strobe = true := by
    rcases lines with strobe | strobe <;> rw [strobe] <;> rfl
  unfold hostData
  simp only [up, asserted]
  refine ⟨fun p pending pend => ⟨fun read => ?_, fun d write => ?_⟩, fun idle b byte => ?_, fun idle byte => ?_⟩
  · obtain ⟨access, addr, limit, left, wait⟩ := p
    obtain rfl : access = .read := read
    simp [pending, pend]
  · obtain ⟨access, addr, limit, left, wait⟩ := p
    obtain rfl : access = .write d := write
    simp [pending, pend]
  · cases bus : s.host.bus
    case pending => exact absurd bus idle
    all_goals simp [byte]
  · cases bus : s.host.bus
    case pending => exact absurd bus idle
    all_goals simp [byte]

/-- Settles O18: by the access held, the bus state, and the lines that drive HD. -/
theorem stallExpiryAndStrobeReleaseEndTheirOwn : Obligations.StallExpiryAndStrobeReleaseEndTheirOwn := by
  refine ⟨?_, fun s rest => ⟨fun ended => ?_, fun other => ?_⟩, fun s => beq_iff_eq, fun s => ⟨fun quiet => ?_, ?_⟩⟩
  · intro s p rest pend expired error bus
    refine ⟨fun d write => ?_, fun read => ?_⟩
    · rw [exec_stallExpiry rest pend expired, State.stallExpires_of_write pend write, State.dropWrite, endAccess_none_eq]
      rfl
    · rw [exec_stallExpiry rest pend expired, State.stallExpires_of_read pend read, State.endRead, endAccess_eq]
      rfl
  · have follows : (s.setStrobe none).followStrobe =
        (s.setStrobe none).setHost { s.host with strobe := none, bus := .idle, readByte := none } := if_pos ⟨ended, rfl⟩
    rw [exec_arrivalConditionFalse rest, follows]
    rfl
  · have stays : (s.setStrobe none).followStrobe = s.setStrobe none := if_neg fun h => other h.1
    rw [exec_arrivalConditionFalse rest, stays]
    rfl
  · unfold hostData readLinesAsserted
    rcases quiet with reset | ⟨noRead, notBoth⟩
    · simp [reset]
    · simp [noRead, notBoth]
  · intro up lines
    obtain ⟨pending, driven, free⟩ := hostData_of_asserted up lines
    refine ⟨pending, fun idle => ?_⟩
    cases byte : s.host.readByte with
    | none => exact free idle byte
    | some b => exact driven idle b byte

/-! ### Deadline expiries (R22 to R24) -/

/-- What an expiry makes of the entry and of the queue, once its deadline is absent. -/
theorem expiryActs_of {t : SettleTable} {i : Index} {e : Entry} (state : e.state = t.entries[i].state) :
    (t.entries[i].state = .settling → expiryActs i (updateEntry t i fun _ => e) =
      { t with entries := t.entries.set i { e with state := .due }, dueQueue := t.dueQueue ++ [i] }) ∧
    (t.entries[i].state = .committing → expiryActs i (updateEntry t i fun _ => e) =
      { t with entries := t.entries.set i { e with deadlinePassed := true } }) ∧
    (t.entries[i].state = .due → expiryActs i (updateEntry t i fun _ => e) = { t with entries := t.entries.set i e }) := by
  have twice (f : Entry → Entry) : updateEntry (updateEntry t i fun _ => e) i f =
      { t with entries := t.entries.set i (f e) } := by
    unfold updateEntry
    simp only [Fin.getElem_fin, Vector.getElem_set_self, Vector.set_set]
  unfold expiryActs
  rw [updateEntry_entries_self, state]
  refine ⟨fun settling => ?_, fun committing => ?_, fun due => ?_⟩
  · rw [settling]
    show promote i (updateEntry t i fun _ => e) = _
    unfold promote
    rw [twice]
    rfl
  · rw [committing]
    refine (twice _).trans ?_
    simp only [state, committing]
  · rw [due]
    rfl

theorem exec_quietDeadlineExpiry {s : State} (rest : s.atRest) {i : Index} (expired : s.table.entries[i].quiet = some 0) :
    exec (.quietDeadlineExpiry i) s = .next (s.quietExpires i) := by
  refine (State.event_of_atRest rest fun s =>
    if s.table.entries[i].quiet = some 0 then s.quietExpires i else s).trans ?_
  rw [if_pos expired]

theorem exec_ageDeadlineExpiry {s : State} (rest : s.atRest) {i : Index} (expired : s.table.entries[i].age = some 0) :
    exec (.ageDeadlineExpiry i) s = .next (s.ageExpires i) := by
  refine (State.event_of_atRest rest fun s =>
    if s.table.entries[i].age = some 0 then s.ageExpires i else s).trans ?_
  rw [if_pos expired]

theorem updateEntry_congr (t : SettleTable) (i : Index) (f : Entry → Entry) :
    updateEntry t i f = updateEntry t i fun _ => f t.entries[i] := rfl

/-- Settles O15: the deadline is absent, then the entry's state decides. -/
theorem deadlineExpiryActsByEntryState : Obligations.DeadlineExpiryActsByEntryState := by
  intro s i rest e after acts
  have placed (t : SettleTable) := State.placeStart_eq (s.setTable t)
  refine ⟨fun expired => ?_, fun expired => ?_⟩
  · obtain ⟨settling, committing, due⟩ :=
      expiryActs_of (t := s.table) (i := i) (e := { e with quiet := none }) rfl
    refine ⟨fun state => ?_, fun state => ?_, fun state => ?_⟩ <;>
      rw [exec_quietDeadlineExpiry rest expired, State.quietExpires, updateEntry_congr, placed]
    · rw [settling state]; rfl
    · rw [committing state]; rfl
    · rw [due state]; rfl
  · obtain ⟨settling, committing, due⟩ :=
      expiryActs_of (t := s.table) (i := i) (e := { e with age := none, ageStart := none }) rfl
    refine ⟨fun state => ?_, fun state => ?_, fun state => ?_⟩ <;>
      rw [exec_ageDeadlineExpiry rest expired, State.ageExpires, updateEntry_congr, placed]
    · rw [settling state]; rfl
    · rw [committing state]; rfl
    · rw [due state]; rfl

end Sys2Proof.Machine
end

section
/-! Grants and pins (O23), the verify of a commit (O25, O26), the map store's job (O31, O32). -/
namespace Sys2Proof.Machine

/-! ### Grants of the commit engine (R93, R94) -/

theorem State.grantProgram_of_record {s : State} {r : CommitRecord} {p : Page} (record : s.ce.record = some r)
    (full : ∀ o : Offset, r.buffer[o] = some p[o]) :
    s.grantProgram =
      (((s.startProgram r.targetPage p).setPort (.programming .commitEngine r.targetPage 25)).setCe
        { stage := .programming, record := some { r with attempts := r.attempts + 1 } }).count .programs := by
  unfold State.grantProgram
  simp only [record, definedBytes_of_full full]

theorem State.grantVerify_of_record {s : State} {r : CommitRecord} (record : s.ce.record = some r) :
    s.grantVerify = (s.setCe { s.ce with stage := .verifying }).setPort (.reading (.verify r.targetPage)) := by
  unfold State.grantVerify
  rw [record]

/-! ### The pins of an operation (R112 to R115) -/

section
variable {s : State} {page : Nat} (inPnv : page < pageCount s.straps.msize)
include inPnv

/-- The 64 read cycles of a PAGE READ. -/
theorem pnvPins_of_pageRead {op : ReadOp} (port : s.port = .reading op) (here : readOpPage op = page)
    (whole : ∀ o, op ≠ .hostByte page o) :
    s.pnvPins =
      (List.finRange 64).map fun o => { mcs := true, mrd := true, mwr := false, ma := page * 64 + o.val, md := none } := by
  have cycles : s.cycles = (List.finRange 64).map fun o => .read (pnvAddress s.straps.msize page o) := by
    unfold State.cycles
    cases op with
    | hostByte p o => exact absurd (here ▸ rfl) (whole o)
    | fill p | verify p | mapVerify p | load p => simp only [port, here]
  unfold State.pnvPins
  rw [port]
  show s.cycles.map Cycle.pins = _
  rw [cycles, List.map_map]
  simp only [Function.comp_def, Cycle.pins, pnvAddress_of_lt inPnv]

theorem pnvPins_of_byteRead {o : Offset} (port : s.port = .reading (.hostByte page o)) :
    s.pnvPins = [{ mcs := true, mrd := true, mwr := false, ma := page * 64 + o.val, md := none }] := by
  unfold State.pnvPins State.cycles
  simp only [port, List.map_cons, List.map_nil, Cycle.pins, pnvAddress_of_lt inPnv]

theorem pnvPins_of_program {who : Programmer} {limit : Nat} {latch : Page} (port : s.port = .programming who page limit)
    (busy : s.pnv.busy = some (page, latch)) :
    s.pnvPins =
      (List.finRange 64).map fun o =>
        { mcs := true, mrd := false, mwr := true, ma := page * 64 + o.val, md := some latch[o] } := by
  unfold State.pnvPins State.cycles
  simp only [port, List.map_map, Function.comp_def, Cycle.pins, pnvAddress_of_lt inPnv, busy, Option.map_some]

end

/-- Settles O23: the two grants by the record, the pins by the operation. -/
theorem grantsProgramThenReadTheTarget : Obligations.GrantsProgramThenReadTheTarget := by
  refine ⟨fun s r p due record full => ?_, fun s r due record => ?_, fun s => ⟨fun quiet => ?_, fun page inPnv => ?_⟩⟩
  · exact (State.followOn_of_due due).trans (congrArg _ (State.grantProgram_of_record record full))
  · exact (State.followOn_of_due due).trans (congrArg _ (State.grantVerify_of_record record))
  · unfold State.pnvPins
    rcases quiet with port | port <;> rw [port] <;> rfl
  · intro reads
    refine ⟨fun o port => pnvPins_of_byteRead inPnv port, fun port => ?_, fun who limit latch port busy =>
      pnvPins_of_program inPnv port busy⟩
    rcases port with port | port | port | port <;> exact pnvPins_of_pageRead inPnv port rfl nofun

/-! ### The verify of a commit (R95, R96, R131) -/

/-- Settles O26: with attempts left the same target is tried again. -/
theorem verifyMismatchRetriesTheTarget : Obligations.VerifyMismatchRetriesTheTarget := by
  intro s r page rest port record differs attempts
  rw [exec_verifyComplete_of_mismatch rest port record differs]
  exact congrArg _ (if_pos attempts)

theorem State.sparesLowTest_setPort (p : PortState) (s : State) :
    (s.setPort p).sparesLowTest = s.sparesLowTest.setPort p := by
  by_cases hits : s.remap.lowReport = .clear ∧ freeSpares s.remap ≤ s.cfg.sparesLow ∧ s.cfg.sparesLow ≠ 0
  · exact (if_pos hits).trans (congrArg (State.setPort · p) (if_pos hits : s.sparesLowTest = _).symm)
  · exact (if_neg hits).trans (congrArg (State.setPort · p) (if_neg hits : s.sparesLowTest = _).symm)

theorem State.mapChange_setPort (p : PortState) (s : State) : (s.setPort p).mapChange = s.mapChange.setPort p := by
  by_cases job : s.store.job = none
  · rw [State.mapChange_of_idle job, State.mapChange_of_idle (s := s.setPort p) job]; rfl
  · rw [State.mapChange_of_running job, State.mapChange_of_running (s := s.setPort p) job]; rfl

/-- A successful commit, with the claim that follows it. -/
theorem State.commitSucceeds_eq (r : CommitRecord) (s : State) :
    s.commitSucceeds r =
      { s with
        events := addCount .commits s.events, table := routeSuccess s.mode r.entry s.table
        ce :=
          { record := none
            stage :=
              if (routeSuccess s.mode r.entry s.table).dueQueue ≠ [] ∧ (s.mode = .run ∨ s.mode = .holdup)
              then .starting else .idle } } := by
  unfold State.commitSucceeds
  rw [State.commitOver_eq]
  rfl

theorem State.verifyMatches_of_kept {r : CommitRecord} (kept : r.trial = false ∨ r.target = .home) (s : State) :
    s.verifyMatches r = s.commitSucceeds r := by
  unfold State.verifyMatches
  rcases kept with h | h
  · rw [h]
  · rw [h]
    cases r.trial <;> rfl

theorem State.verifyMatches_of_trial {r : CommitRecord} {n : Nat} (trial : r.trial = true) (target : r.target = .spare n)
    (s : State) : s.verifyMatches r = (s.remapTo r.page n).commitSucceeds r := by
  unfold State.verifyMatches
  rw [trial, target]

/-- Settles O25: by whether the target is a spare under trial. -/
theorem verifyMatchEndsTheCommit : Obligations.VerifyMatchEndsTheCommit := by
  intro s r page rest port record same ends
  have matches' : (s.setPort .idle).verifyDone r (s.readPage page) = (s.setPort .idle).verifyMatches r :=
    if_pos (definedBytes_of_full same).symm
  refine ⟨fun kept => ?_, fun n trial target => ?_⟩
  · rw [exec_verifyComplete rest port record, matches', State.verifyMatches_of_kept kept, State.commitSucceeds_eq]
    rfl
  · rw [exec_verifyComplete rest port record, matches', State.verifyMatches_of_trial trial target,
      State.commitSucceeds_eq]
    have changed : (s.setPort .idle).remapTo r.page n =
        (State.mapChange (State.sparesLowTest
          { s with
            remap := remapChange r.page n s.remap
            events := addCount .remaps (raiseFlag .remap s.events) })).setPort .idle := by
      rw [← State.mapChange_setPort, ← State.sparesLowTest_setPort]
      rfl
    have frame := State.sparesLowTest_mapChange_frame
      { s with
        remap := remapChange r.page n s.remap
        events := addCount .remaps (raiseFlag .remap s.events) }
    rw [changed]
    generalize State.mapChange _ = u at *
    rw [frame]
    rfl

/-! ### The job's start and its steps (R151 to R153) -/

/-- Settles O31: the snapshot and the target; the step by what the job is at. -/
theorem jobStartsWithItsSnapshotAndTakesItsSteps : Obligations.JobStartsWithItsSnapshotAndTakesItsSteps := by
  refine ⟨fun s due => ⟨jobTarget s.store, ?_, fun current => ?_, fun current => ?_, fun current => ?_⟩, ?_⟩
  · refine (State.followOn_of_due due).trans ?_
    have first : (if s.remap.records = [] then 0 else 1) = if s.remap.records.length = 0 then 0 else 1 := by
      simp only [List.length_eq_zero_iff]
    show Host.Outcome.next s.startJob = _
    unfold State.startJob
    rw [first]
    rfl
  · unfold jobTarget; rw [current]; rfl
  · unfold jobTarget; rw [current]; rfl
  · unfold jobTarget; rw [current]
  · intro s j p due job page place
    have physical : jobPhysical j = place := by
      unfold jobPhysical copyBase
      show _ = (if j.target = .a then 0 else 17) + j.page
      cases j.target <;> rfl
    have written : jobPage j = p := by
      unfold jobPage
      rw [List.getD_eq_getElem?_getD, page]
      rfl
    refine ⟨fun program => ?_, fun verify => ?_⟩
    · have grants : s.grantMapStep = (s.startProgram place p).setPort (.programming .mapStore place 25) := by
        unfold State.grantMapStep
        simp only [job, program, physical, written]
      exact (State.followOn_of_due due).trans (congrArg _ grants)
    · have grants : s.grantMapStep = s.setPort (.reading (.mapVerify place)) := by
        unfold State.grantMapStep
        simp only [job, verify, physical]
      exact (State.followOn_of_due due).trans (congrArg _ grants)

/-! ### The verify of a job (R154, R155) -/

theorem exec_mapStoreVerifyComplete {s : State} (rest : s.atRest) {page : Nat} {j : PersistJob}
    (port : s.port = .reading (.mapVerify page)) (job : s.store.job = some j) :
    exec .mapStoreVerifyComplete s = .next ((s.setPort .idle).mapVerified j page) := by
  refine (State.event_of_atRest rest State.mapVerifyReadDone).trans ?_
  unfold State.mapVerifyReadDone
  rw [port, job]

theorem startAgain_eq (m : MapStore) :
    startAgain m = { m with persistAgain := false, startDue := m.startDue || m.persistAgain } := by
  obtain ⟨current, sequence, status, again, running, data, changed, fresh, request, start, report⟩ := m
  cases again <;> simp [startAgain]

theorem reportSave_eq (ok : Bool) (m : MapStore) :
    reportSave ok m =
      { m with
        saveRequest := if m.saveRequest = .running then .none else m.saveRequest
        saveReport := if m.saveRequest = .running then some ok else m.saveReport } := by
  unfold reportSave
  split <;> rfl

/-- Settles O32: by the verify of the job's page and by whether it is the header. -/
theorem jobVerifyMovesOnSucceedsOrFails : Obligations.JobVerifyMovesOnSucceedsOrFails := by
  refine ⟨fun s j page rest port job image => ⟨fun other => ?_, fun header => ?_⟩,
    fun s j page p rest port job image differs => ?_⟩
  · have written : jobPage j = s.readPage page := by
      unfold jobPage
      rw [List.getD_eq_getElem?_getD, image]
      rfl
    have verified : (s.setPort .idle).mapVerified j page =
        (s.setPort .idle).setStore { s.store with jobData := { j with page := nextJobPage j, step := .program } } := by
      unfold State.mapVerified
      rw [if_pos (show (s.setPort .idle).readPage page = jobPage j from written.symm), if_neg other]
      rfl
    rw [exec_mapStoreVerifyComplete rest port job, verified]
    rfl
  · have written : jobPage j = s.readPage page := by
      unfold jobPage
      rw [List.getD_eq_getElem?_getD, image]
      rfl
    have data := ((MapStore.job_eq_some s.store j).mp job).2
    have verified : (s.setPort .idle).mapVerified j page = (s.setPort .idle).jobSucceeds j := by
      unfold State.mapVerified
      rw [if_pos (show (s.setPort .idle).readPage page = jobPage j from written.symm), if_pos header]
    rw [exec_mapStoreVerifyComplete rest port job, verified, State.jobSucceeds, reportSave_eq, startAgain_eq, endJob]
    simp only [State.setPort_store, data]
    rfl
  · have written : jobPage j = p := by
      unfold jobPage
      rw [List.getD_eq_getElem?_getD, image]
      rfl
    have data := ((MapStore.job_eq_some s.store j).mp job).2
    have physical : jobPhysical j = (if j.target = .a then 0 else 17) + j.page := by
      unfold jobPhysical copyBase
      cases j.target <;> rfl
    have verified : (s.setPort .idle).mapVerified j page = (s.setPort .idle).jobFails j := by
      unfold State.mapVerified
      rw [if_neg (show ¬ (s.setPort .idle).readPage page = jobPage j from fun e => differs (written.symm.trans e.symm))]
    rw [exec_mapStoreVerifyComplete rest port job, verified, State.jobFails, reportSave_eq, startAgain_eq, endJob,
      physical, freshTargetAfterFailure_eq]
    simp only [State.setPort_store, data]
    rfl

end Sys2Proof.Machine
end

section
/-! The tick (O6): what it counts down, and what it takes first. -/
namespace Sys2Proof.Machine

/-! ### A tick at a state that nothing waits in (R21, R66, R124) -/

theorem exec_timebaseTick (s : State) (up : s.inReset = false) : exec .timebaseTick s = .next s.readyForTick.tick := by
  refine (if_neg ?_ : execTimebaseTick s = _)
  simp [up]

theorem State.tick_of_phase_lt {s : State} (short : s.time.phase + 1 < 10) :
    s.tick = (s.setHost (tickStall s.host)).setTime { s.time with phase := s.time.phase + 1 } := if_pos short

theorem State.tick_of_phase_ge {s : State} (long : 10 ≤ s.time.phase + 1) :
    s.tick = (s.setHost (tickStall s.host)).tickMs := if_neg (Nat.not_lt.mpr long)

theorem tickPort_of_not_programming {p : PortState} (other : ∀ who page limit, p ≠ .programming who page limit) :
    tickPort p = p := by
  cases p
  case programming who page limit => exact absurd rfl (other who page limit)
  all_goals rfl

theorem tickBoot_of_clock {b : BootLoader} {n : Nat} (stage : b.stage = .clock n) :
    tickBoot b = { b with stage := .clock (n - 1) } := by
  simp only [tickBoot, stage]

theorem tickBoot_of_ready {b : BootLoader} {n : Nat} (stage : b.stage = .ready n) :
    tickBoot b = { b with stage := .ready (n - 1) } := by
  simp only [tickBoot, stage]

theorem tickBoot_of_other {b : BootLoader} (clock : ∀ n, b.stage ≠ .clock n) (ready : ∀ n, b.stage ≠ .ready n) :
    tickBoot b = b := by
  cases stage : b.stage
  case clock n => exact absurd stage (clock n)
  case ready n => exact absurd stage (ready n)
  all_goals simp only [tickBoot, stage]

/-! ### The rows taken before a tick (log 3) -/

theorem State.expire_inReset (e : Expiry) (s : State) : (s.expire e).inReset = s.inReset :=
  (congrArg State.inReset (State.expire_frame e s) :)

theorem State.settleForTick_inReset (n : Nat) (s : State) : (State.settleForTick n s).inReset = s.inReset :=
  State.settleForTick_keeps (P := fun t => t.inReset = s.inReset)
    (fun f t h _ => (State.follow_inReset f t).trans h) (fun e t h _ => (State.expire_inReset e t).trans h) n rfl

theorem State.settleForTick_of_due {s : State} {f : FollowOn} (due : s.due = some f) (n : Nat) :
    State.settleForTick (n + 1) s = State.settleForTick n (s.follow f) := by
  simp only [State.settleForTick, due]

theorem State.settleForTick_of_expiry {s : State} {e : Expiry} (due : s.due = none) (expiry : s.expiry = some e)
    (n : Nat) : State.settleForTick (n + 1) s = State.settleForTick n (s.expire e) := by
  simp only [State.settleForTick, due, expiry]

theorem State.settleForTick_of_none {s : State} (due : s.due = none) (expiry : s.expiry = none) (n : Nat) :
    State.settleForTick n s = s := by
  cases n with
  | zero => rfl
  | succ n => simp only [State.settleForTick, due, expiry]

/-- Once nothing waits, more steps change nothing. -/
theorem State.settleForTick_stable {n m : Nat} (le : n ≤ m) {s : State}
    (due : (State.settleForTick n s).due = none) (expiry : (State.settleForTick n s).expiry = none) :
    State.settleForTick m s = State.settleForTick n s := by
  induction n generalizing m s with
  | zero => exact State.settleForTick_of_none due expiry m
  | succ n ih =>
    obtain ⟨m, rfl⟩ : ∃ k, m = k + 1 := ⟨m - 1, by omega⟩
    cases d : s.due with
    | some f =>
      rw [State.settleForTick_of_due d] at due expiry ⊢
      rw [State.settleForTick_of_due d]
      exact ih (by omega) due expiry
    | none =>
      cases e : s.expiry with
      | some e' =>
        rw [State.settleForTick_of_expiry d e] at due expiry ⊢
        rw [State.settleForTick_of_expiry d e]
        exact ih (by omega) due expiry
      | none => rw [State.settleForTick_of_none d e, State.settleForTick_of_none d e]

/-- At rest, the row of an expiry that waits does what the tick does for it. -/
theorem exec_expiryRow {s : State} (rest : s.atRest) {e : Expiry} (waits : expiryWaits e s) :
    exec (expiryRow e) s = .next (s.expire e) := by
  cases e with
  | quiet i => exact exec_quietDeadlineExpiry rest waits
  | age i => exact exec_ageDeadlineExpiry rest waits
  | stall =>
    refine (State.event_of_atRest rest fun s => if stallExpired s.host then s.stallExpires else s).trans ?_
    exact congrArg Host.Outcome.next (if_pos waits)
  | programLimit =>
    refine (State.event_of_atRest rest fun s => if programLimitExpired s.port then s.programTimesOut else s).trans ?_
    exact congrArg Host.Outcome.next (if_pos waits)
  | ready =>
    refine (State.event_of_atRest rest fun s => if readyExpired s then s.readyTimesOut else s).trans ?_
    exact congrArg Host.Outcome.next (if_pos waits)

/-! ### The order of the expiries (log 3) -/

theorem entryExpiry_of_first {t : SettleTable} {i : Index}
    (waits : t.entries[i].quiet = some 0 ∨ t.entries[i].age = some 0)
    (first : ∀ j : Index, j < i → t.entries[j].quiet ≠ some 0 ∧ t.entries[j].age ≠ some 0) :
    entryExpiry t = if t.entries[i].quiet = some 0 then some (.quiet i) else some (.age i) := by
  have found : (firstIndex t fun e => e.quiet == some 0 || e.age == some 0) = some i :=
    firstIndex_eq_some_iff.mpr ⟨by simpa using waits, fun j less => by simpa using first j less⟩
  rw [entryExpiry, found]

theorem entryExpiry_of_none {t : SettleTable}
    (none : ∀ j : Index, t.entries[j].quiet ≠ some 0 ∧ t.entries[j].age ≠ some 0) : entryExpiry t = .none := by
  have found : (firstIndex t fun e => e.quiet == some 0 || e.age == some 0) = .none :=
    firstIndex_eq_none_iff.mpr fun j => by simpa using none j
  rw [entryExpiry, found]

theorem stallExpired_iff {h : HostPort} : stallExpired h = true ↔ ∃ p, h.pend = some p ∧ p.stallLeft = 0 := by
  unfold stallExpired
  cases pend : h.pend <;> simp

theorem programLimitExpired_iff {p : PortState} :
    programLimitExpired p = true ↔ ∃ who page, p = .programming who page 0 := by
  cases p <;> simp [programLimitExpired]

theorem readyExpired_iff {s : State} : readyExpired s = true ↔ s.boot.stage = .ready 0 ∧ s.pnv.busy ≠ none := by
  simp [readyExpired, mrdyIsHigh, Option.isSome_iff_ne_none]

theorem State.expiry_of_entry {s : State} (up : s.inReset = false) {e : Expiry} (entry : entryExpiry s.table = some e) :
    s.expiry = some e := by
  simp [State.expiry, up, entry]

theorem State.expiry_of_no_entry {s : State} (up : s.inReset = false) (entry : entryExpiry s.table = none) :
    s.expiry =
      if stallExpired s.host then some .stall
      else if programLimitExpired s.port then some .programLimit
      else if readyExpired s then some .ready
      else none := by
  simp [State.expiry, up, entry]

/-- Settles O6: the countdown, then the rows that a tick takes first and their order. -/
theorem tickCountsDownEveryInterval : Obligations.TickCountsDownEveryInterval := by
  refine ⟨fun s rest quiet => ?_, fun s u n up le settles due expiry => ?_, fun s u e n rest expiry row => ?_,
    fun s i up waits first => ?_, fun s up none => ?_⟩
  · have ticks : exec .timebaseTick s = .next s.tick := by
      rw [exec_timebaseTick s rest.1, State.readyForTick_of_none rest.2 quiet]
    refine ⟨fun short => ?_, fun long => ⟨s.tick, ticks, ?_⟩⟩
    · rw [ticks, State.tick_of_phase_lt short]
      rfl
    · rw [State.tick_of_phase_ge long]
      refine ⟨?_, mapEntries_dueQueue tickEntry s.table, mapEntries_cleanList tickEntry s.table,
        fun i => mapEntries_entries tickEntry s.table i, fun who page limit port => ?_,
        fun other => tickPort_of_not_programming other, fun n stage => tickBoot_of_clock stage,
        fun n stage => tickBoot_of_ready stage, fun clock ready => tickBoot_of_other clock ready⟩
      · simp only [State.tickMs, tickStall, State.setHost, State.setTime, State.setTable, State.setPort, State.setBoot]
      · exact congrArg tickPort port
  · have inReset : u.inReset = false := by rw [← settles, State.settleForTick_inReset, up]
    have settled : s.readyForTick = u := by
      rw [← settles] at due expiry ⊢
      exact State.settleForTick_stable le due expiry
    rw [exec_timebaseTick s up, exec_timebaseTick u inReset, settled, State.readyForTick_of_none due expiry]
  · have same : s.expire e = u := by
      rw [exec_expiryRow rest (State.expiry_spec expiry).2] at row
      exact Host.Outcome.next.inj row
    rw [State.settleForTick_of_expiry rest.2 expiry, same]
  · have entry := entryExpiry_of_first waits first
    split
    · rename_i quiet
      exact State.expiry_of_entry up (entry.trans (if_pos quiet))
    · rename_i later
      exact State.expiry_of_entry up (entry.trans (if_neg later))
  · rw [State.expiry_of_no_entry up (entryExpiry_of_none none)]
    refine ⟨fun stall => if_pos (stallExpired_iff.mpr stall), fun held => ?_⟩
    have running : ¬ stallExpired s.host = true := fun stall =>
      let ⟨p, pend, zero⟩ := stallExpired_iff.mp stall
      held p pend zero
    rw [if_neg running]
    refine ⟨fun limit => if_pos (programLimitExpired_iff.mpr limit), fun within => ?_⟩
    have unexpired : ¬ programLimitExpired s.port = true := fun limit =>
      let ⟨who, page, port⟩ := programLimitExpired_iff.mp limit
      within who page port
    rw [if_neg unexpired]
    simp only [readyExpired_iff]

end Sys2Proof.Machine
end

section
/-! Boot: CLOCK, READY and the loads (O36). -/
namespace Sys2Proof.Machine

/-! ### CLOCK and READY (R124) -/

theorem State.due_of_clockEnd {s : State} (up : s.inReset = false) (stage : s.boot.stage = .clock 0) :
    s.due = some .clockStageEnd := by
  simp [State.due, up, clockStageEndDue, stage]

theorem exec_clockStageEnd {s : State} (up : s.inReset = false) (stage : s.boot.stage = .clock 0) :
    exec .clockStageEnd s = .next s.startReady := State.followOn_of_due (State.due_of_clockEnd up stage)

/-- The end of CLOCK: with no program in the PNV READY ends as it begins. -/
theorem State.startReady_eq (s : State) :
    s.startReady =
      if s.pnv.busy = none then
        { s with boot := { s.boot with stage := .load .a 0 }, port := .reading (.load 0) }
      else { s with boot := { s.boot with stage := .ready 25 } } := by
  unfold State.startReady mrdyIsHigh
  cases s.pnv.busy <;> rfl

theorem exec_readyMrdyHigh {s : State} (rest : s.atRest) {n : Nat} (stage : s.boot.stage = .ready n)
    (res : ProgramResult) : exec (.readyMrdyHigh res) s = .next ((s.endCutProgram res).loadPage .a 0) := by
  refine (State.event_of_atRest rest fun s => s.mrdyHigh res).trans ?_
  simp only [State.mrdyHigh, stage]

/-- In CLOCK a rise of MRDY ends the program that a reset cut off (log 6). -/
theorem exec_pageProgramComplete_of_clock {s : State} (rest : s.atRest) {n : Nat} (stage : s.boot.stage = .clock n)
    (unseen : isProgramming s.port = false) (res : ProgramResult) :
    exec (.pageProgramComplete res) s = .next (s.endCutProgram res) := by
  refine (State.event_of_atRest rest fun s => s.programDone res).trans ?_
  have rise : s.programDone res = s.unseenRise res := by
    unfold State.programDone
    cases port : s.port
    case programming => rw [port] at unseen; cases unseen
    all_goals rfl
  simp only [rise, State.unseenRise, stage]

theorem State.endCutProgram_of_idle {s : State} (idle : s.pnv.busy = none) (res : ProgramResult) :
    s.endCutProgram res = s := by
  simp only [State.endCutProgram, State.endProgramAt, idle]

/-- The cells after the end of a program that a reset cut off. -/
def cutCells (s : State) (page : Nat) (latch : Page) (res : ProgramResult) : List Host.Cell :=
  writeCells s.pnv.cells wholeAddress page (programLeaves latch res)

theorem State.endCutProgram_of_busy {s : State} {page : Nat} {latch : Page} (busy : s.pnv.busy = some (page, latch))
    (res : ProgramResult) : s.endCutProgram res = s.setPnv { cells := cutCells s page latch res, busy := none } := by
  simp only [State.endCutProgram, State.endProgramAt, busy, cutCells]

section
variable {s : State} {page : Nat} (below : page < 32768) (latch : Page) (res : ProgramResult)
include below

theorem readCell_cutCells_self (law : MemoryLaw s) (o : Offset) :
    readCell (cutCells s page latch res) (page * 64 + o.val) = (programLeaves latch res)[o] := by
  have inPnv : page < pageCount wholeAddress := below
  rw [← pnvAddress_of_lt inPnv o]
  exact readCell_writeCells_self law inPnv _ o

theorem readCell_cutCells_of_outside {a : Nat} (outside : a < page * 64 ∨ page * 64 + 64 ≤ a) :
    readCell (cutCells s page latch res) a = readCell s.pnv.cells a := by
  have inPnv : page < pageCount wholeAddress := below
  refine readCell_writeCells_of_ne _ _ _ _ fun o => ?_
  rw [pnvAddress_of_lt inPnv]
  omega

end

/-! ### The READY timeout -/

theorem exec_readyTimeout {s : State} (rest : s.atRest) (stage : s.boot.stage = .ready 0) (busy : s.pnv.busy ≠ none) :
    exec .readyTimeout s = .next ((s.bootOver).enterFault (.memtimeout, 0)) :=
  exec_expiryRow (e := .ready) rest (readyExpired_iff.mpr ⟨stage, busy⟩)

theorem faultErrors_of_held {s : State} {p : PendingAccess} (job : s.store.job = none) (pend : s.host.pend = some p)
    (boot : p.wait = .boot) (c : ErrorKind × Nat) : faultErrors c s = [c, (.range, p.addr.toNat)] := by
  obtain ⟨access, addr, limit, left, wait⟩ := p
  obtain rfl : wait = .boot := boot
  unfold faultErrors
  simp only [job, pend]
  rfl

theorem State.hostInFault_of_free {s : State} (free : s.host.pend = none) : s.hostInFault = s := by
  unfold State.hostInFault
  rw [free]

/-- The way into FAULT with no access held, no job and no commit: what is reported is the cause alone. -/
theorem State.enterFault_of_quiet {s : State} (job : s.store.job = none) (free : s.host.pend = none)
    (record : s.ce.record = none) (c : ErrorKind × Nat) :
    s.enterFault c =
      { s with
        mode := .fault, port := .faulted, flush := .none, ce := { stage := .idle, record := none }
        store := storeInFault s.store, table := (s.enterFault c).table
        events := raiseFlag .mfault (offerError (errorAt s.time.stamp c) s.events) } := by
  have cold : ¬ heldInBoot s.host := fun ⟨p, pend, _⟩ => by rw [free] at pend; cases pend
  have reported : (s.offerUnordered (faultErrors c s)).faultFlags = (s.offer c.1 c.2).raise .mfault := by
    have noJob : (s.offer c.1 c.2).store.job.isSome = false := congrArg Option.isSome job
    rw [faultErrors_of_noJob job cold]
    show (s.offer c.1 c.2).faultFlags = _
    unfold State.faultFlags
    rw [noJob]
    rfl
  obtain ⟨e, told, reports⟩ : ∃ e, (s.offer c.1 c.2).raise .mfault = { s with events := e } ∧
      raiseFlag .mfault (offerError (errorAt s.time.stamp c) s.events) = e := ⟨_, rfl, rfl⟩
  obtain ⟨t, ends⟩ : ∃ t,
      (({ s with events := e } : State).setStore (storeInFault s.store)).commitInFault.clearSyncMarks =
        { s with
          events := e, store := storeInFault s.store, table := t, ce := { stage := .idle, record := none } } := by
    refine ⟨mapEntries (fun e => { e with syncMark := false }) s.table, ?_⟩
    simp only [State.commitInFault, State.setStore, record]
    rfl
  simp only [State.enterFault, reported, reports, told, ends]
  rw [State.hostInFault_of_free (by exact free)]
  rfl

/-- The end of boot in FAULT with an access held in BOOT. -/
structure EndsHeld (s : State) (p : PendingAccess) (t : State) : Prop where
  mode : t.mode = .fault
  port : t.port = .faulted
  boot : t.boot = { stage := .ended, pagesA := [], pagesB := [] }
  pnv : t.pnv = s.pnv
  remap : t.remap = s.remap
  host : t.host =
    { bus := if s.host.strobe = some .read ∨ s.host.strobe = some .write then .ended else .idle
      pend := none, strobe := s.host.strobe
      readByte :=
        if p.access = .read ∧ (s.host.strobe = some .read ∨ s.host.strobe = some .both) then some s.cfg.filler
        else none }
  flags : ∀ f : Flag, flagIn t.events.flags f = (flagIn s.events.flags f || f == .mfault || f == .range)
  counters : t.events.counters =
    if p.access = .read then (addCount .hostReads s.events).counters else s.events.counters
  captured : s.events.capture = none →
    (t.events.capture = some { kind := .memtimeout, addr := 0#24, stamp := s.time.stamp } ∨
      t.events.capture = some { kind := .range, addr := BitVec.ofNat 24 p.addr.toNat, stamp := s.time.stamp }) ∧
    t.events.overflow = (if s.events.overflow = 255#8 then 255#8 else s.events.overflow + 1)

theorem EndsHeld.of_timeout {s : State} {p : PendingAccess} (job : s.store.job = none) (pend : s.host.pend = some p)
    (boot : p.wait = .boot) : EndsHeld s p ((s.bootOver).enterFault (.memtimeout, 0)) := by
  have held : heldInBoot s.host := ⟨p, pend, boot⟩
  have unclaimed : ¬ readClaims s.host := fun ⟨q, pend', _, claim⟩ => by
    rw [pend] at pend'; cases pend'; rw [boot] at claim; cases claim
  have frame := State.enterFault_frame (.memtimeout, 0) s.bootOver
  have reports := State.enterFault_reports (.memtimeout, 0) s.bootOver
  have read := State.enterFault_host_of_read (s := s.bootOver) (p := p) (c := (.memtimeout, 0)) pend boot
  have write := fun d =>
    State.enterFault_host_of_write (s := s.bootOver) (p := p) (d := d) (c := (.memtimeout, 0)) pend boot
  have errors := faultErrors_of_held (s := s.bootOver) job pend boot (.memtimeout, 0)
  have overflow := reports.overflow (n := 1) (fun _ => rfl) fun neither => absurd (.inl held) neither
  generalize (s.bootOver).enterFault (.memtimeout, 0) = t at *
  exact {
    mode := by rw [frame]
    port := by rw [frame]
    boot := by rw [frame]; rfl
    pnv := by rw [frame]; rfl
    remap := by rw [frame]; rfl
    host := by
      cases access : p.access with
      | read =>
        rw [read access, endAccess_host]
        simp only [true_and]
        rfl
      | write d =>
        rw [write d access, endAccess_host]
        simp only [ite_self, reduceCtorEq, false_and, if_false]
        rfl
    flags := fun f => by
      have none : ¬ s.bootOver.store.job ≠ none := fun runs => runs job
      rw [Bool.eq_iff_iff, reports.flags f]
      simp only [Bool.or_eq_true, beq_iff_eq, none, and_false, false_or, or_assoc]
      exact or_congr_right (or_congr_right (and_iff_left held))
    counters := by
      by_cases access : p.access = .read
      · rw [if_pos access]
        exact reports.read ⟨p, pend, access, .inr boot⟩
      · rw [if_neg access]
        refine reports.noRead fun ⟨q, pend', read, _⟩ => access ?_
        exact (Option.some.inj (pend.symm.trans pend')) ▸ read
    captured := fun empty => by
      obtain ⟨x, mem, taken⟩ := reports.taken empty
      rw [errors] at mem
      refine ⟨?_, ?_⟩
      · rw [taken]
        rcases List.mem_cons.mp mem with rfl | later
        · exact .inl rfl
        · rw [List.mem_singleton.mp later]
          exact .inr rfl
      · rw [← saturate_eq_ite s.events.overflow 255#8 rfl]
        refine BitVec.eq_of_toNat_eq ?_
        rw [overflow, saturate_toNat, if_pos (by exact empty), if_pos (by exact job)]
        rfl }

/-! ### The loads (R159) -/

theorem exec_loadPageReadComplete {s : State} {c : Copy} {k page : Nat} (rest : s.atRest)
    (port : s.port = .reading (.load page)) (stage : s.boot.stage = .load c k) :
    exec .loadPageReadComplete s = .next (s.pageLoaded c k (s.readPage page)) := by
  refine (State.event_of_atRest rest State.loadReadDone).trans ?_
  unfold State.loadReadDone
  rw [port, stage]

theorem headerOf_of_head {pages : List Page} {h : Page} (head : pages[0]? = some h) : headerOf pages = h := by
  unfold headerOf
  rw [List.headD_eq_head?_getD, List.head?_eq_getElem?, head, Option.getD_some]

theorem pagesToLoad_eq (h : Page) :
    pagesToLoad h =
      if (h[0] = 0x47#8 ∧ h[1] = 0x52#8 ∧ h[2] = 0x4A#8 ∧ h[3] = 0x4D#8) ∧ h[12].toNat * 256 + h[13].toNat ≤ 256 then
        (h[12].toNat * 256 + h[13].toNat + 15) / 16
      else 0 := by
  refine ite_congr (propext ?_) (fun _ => rfl) fun _ => rfl
  rw [Bool.and_eq_true, decide_eq_true_eq]
  simp only [signatureOk, Bool.and_eq_true, beq_iff_eq, and_assoc, headerCount, num16]

/-- While the header names more pages, the next one of the copy is read. -/
theorem State.pageLoaded_of_more {s : State} {c : Copy} {k : Nat} {p h : Page}
    (head : (loadedPages (addLoaded c p s.boot) c)[0]? = some h) (more : k < pagesToLoad h) :
    s.pageLoaded c k p = (s.setBoot (addLoaded c p s.boot)).loadPage c (k + 1) :=
  if_pos (by rw [State.setBoot, headerOf_of_head head]; exact more)

/-- After the last page of copy A the header of copy B is read. -/
theorem State.pageLoaded_of_last {s : State} {k : Nat} {p h : Page}
    (head : (loadedPages (addLoaded .a p s.boot) .a)[0]? = some h) (last : pagesToLoad h ≤ k) :
    s.pageLoaded .a k p = (s.setBoot (addLoaded .a p s.boot)).loadPage .b 0 :=
  if_neg (by rw [State.setBoot, headerOf_of_head head]; exact Nat.not_lt.mpr last)

/-- Settles O36: the stages of boot in their order. -/
theorem bootGoesThroughClockReadyAndLoad : Obligations.BootGoesThroughClockReadyAndLoad := by
  refine ⟨fun s up => ⟨fun stage => ?_, fun n res due stage idle => ?_, fun n page latch res due law below busy => ?_,
      fun p due stage busy job pend boot => ?_, fun due stage busy job free record => ?_⟩,
    fun s k page h rest port head stage => ⟨fun more => ?_, fun last => ?_⟩,
    fun s k page h rest port head stage g r j m few more => ?_⟩
  · rw [exec_clockStageEnd up stage, State.startReady_eq]
  · rw [exec_readyMrdyHigh ⟨up, due⟩ stage, State.endCutProgram_of_idle idle]
    rfl
  · have ends := State.endCutProgram_of_busy busy res
    have self := readCell_cutCells_self below latch res law
    have outside := fun a => readCell_cutCells_of_outside (s := s) (a := a) below latch res
    generalize cutCells s page latch res = cells at ends self outside
    refine ⟨cells, fun stage => ?_, fun stage unseen => ?_, fun o => ?_, outside⟩
    · rw [exec_readyMrdyHigh ⟨up, due⟩ stage, ends]
      rfl
    · rw [exec_pageProgramComplete_of_clock ⟨up, due⟩ stage unseen, ends]
      rfl
    · rw [self o]
      cases res <;> rfl
  · obtain ⟨mode, port, ended, pnv, remap, host, flags, counters, captured⟩ := EndsHeld.of_timeout job pend boot
    exact ⟨_, exec_readyTimeout ⟨up, due⟩ stage busy, mode, port, ended, pnv, remap, host, flags, counters, captured⟩
  · have quiet := State.enterFault_of_quiet (s := s.bootOver) job free record (.memtimeout, 0)
    have entries := State.enterFault_entries_of_none (s := s.bootOver) record (.memtimeout, 0)
    refine ⟨_, exec_readyTimeout ⟨up, due⟩ stage busy, ?_⟩
    generalize (s.bootOver).enterFault (.memtimeout, 0) = t at *
    have store : t.store = storeInFault s.store := by rw [quiet]; rfl
    refine ⟨?_, entries, ?_, ?_, ?_⟩
    · rw [store]
      exact quiet
    all_goals rw [store, storeInFault_of_idle job]
    exact (MapStore.job_eq_none _).mpr rfl
  · rw [exec_loadPageReadComplete rest port stage, State.pageLoaded_of_more (c := .a) head (pagesToLoad_eq h ▸ more),
      State.loadPage, show copyBase .a + (k + 1) = k + 1 from Nat.zero_add _]
    rfl
  · rw [exec_loadPageReadComplete rest port stage, State.pageLoaded_of_last head (pagesToLoad_eq h ▸ last)]
    rfl
  · have named : k < pagesToLoad h := by
      rw [pagesToLoad_eq, if_pos ⟨⟨g, r, j, m⟩, few⟩]
      exact more
    rw [exec_loadPageReadComplete rest port stage, State.pageLoaded_of_more (c := .b) head named]
    rfl

end Sys2Proof.Machine
end
